-- ==== Sys2Proof/Word.lean ====
section
/-! DEFINITION. The byte, the only word the block reads (spec/00_scope.md R11: bit 0 is the least significant bit). -/

namespace Sys2Proof

/-- A cell of the byte buffer, an opcode byte, a ModRM or SIB byte: 8 bits (20_memory.md R74). -/
abbrev Byte := BitVec 8

end Sys2Proof
end

