-- ==== Sys2Proof/Config.lean ====
section
/-! DEFINITION. The parameters of the block (00_scope.md R9), the data types its tables hold (10_state.md R24 to R41),
and the free values. The default values of the parameters are in Machine/Params.lean. -/

namespace Sys2Proof

/-! ## Free values: constants without a body, so that nothing can be proved of what they are -/

/-- POS after an error or a lost call is an unconstrained draw (10_state.md R33; 93 U1, U12): the n-th draw. -/
opaque Config.posAfterError : Nat → Nat

/-! ## Register designators (10_state.md R24 to R28) -/

/-- Register classes: GPR, and MMX and XMM as designators only (R24, R25). -/
inductive RegClass where
  | gpr | mmx | xmm
deriving DecidableEq, Repr

/-- The two widths the block ever asks of a general register (R24). -/
inductive Width where
  | w32 | w64
deriving DecidableEq, Repr

/-- The triple (class, width, index); `width` is none for MMX and XMM (R25, R26; 92 D10). -/
structure Designator where
  cls   : RegClass
  width : Option Width
  idx   : BitVec 4
deriving DecidableEq, Repr

/-- What REGNAME answers where the table lists no name (10_state.md R27: table-defined; 93 U5). -/
opaque Config.unlistedRegName : Designator → String

/-! ## Opcode descriptors (10_state.md R40, R41) -/

/-- An instruction-type tag: opaque to the block, compared for equality only (00_scope.md R9, 91 N25). -/
structure Tag where
  text : String
deriving DecidableEq, Repr

/-- A fixed-operand literal: opaque to the block, copied and never interpreted (45_fixed_operand.md R253). -/
structure Literal where
  text : String
deriving DecidableEq, Repr

/-- The five operand kinds (R40). -/
inductive OperandKind where
  | gpr | mmx | xmm | fixed | rm
deriving DecidableEq, Repr

/-- OperandDescriptor (R40). `alt0` and `alt1` are for kind FIXED only (92 D23). -/
structure OperandDescriptor where
  kind  : OperandKind
  index : Nat
  alt0  : Option Literal
  alt1  : Option Literal
deriving DecidableEq, Repr

/-- OpcodeDescriptor (R41). `r`, `m`, `rm` refer to an element of `operands` by its place in that list. -/
structure OpcodeDescriptor where
  tag      : Tag
  operands : List OperandDescriptor
  modrm    : Bool
  r        : Option Nat
  m        : Option Nat
  rm       : Option Nat
deriving DecidableEq, Repr

/-- One opcode table: 256 cells addressed by one byte (20_memory.md R75). A byte the list does not name is a cell
that holds none. -/
structure OpcodeTable where
  cells : List (Byte × OpcodeDescriptor)
deriving DecidableEq, Repr

/-- Which of the four opcode tables a lookup asks (10_state.md R38, R47). -/
inductive TableSel where
  | t1 | t2 | t3a | t3b
deriving DecidableEq, Repr

/-! ## Prefix flags (10_state.md R34) -/

/-- The flags of PFX in the order of the default PREFIX_LIST (30_encoding.md R104). DESIGN CHOICE, log 28: the spec leaves
PREFIX_LIST open and gives PFX one bit per flag of it; here the flags are these thirteen whatever the list, those of the
PREFIX rows of the opcode table. -/
inductive PfxFlag where
  | lock | cs | ss | ds | es | fs | gs | repne | rep | hintNotTaken | hintTaken | opsize | addrsize
deriving DecidableEq, Repr

/-- Whether the SIB base-5 test sees the extended value or the raw field (BASE5_COMPARE; 92 D7). -/
inductive Base5Compare where
  | extended | raw
deriving DecidableEq, Repr

/-- Every parameter of 00_scope.md R9 that a model takes as an argument; constant for the life of the block (R10). -/
structure Params where
  prefixList : List (Byte × PfxFlag)
  esc        : Byte
  selA       : Byte
  selB       : Byte
  t1         : OpcodeTable
  t2         : OpcodeTable
  t3a        : OpcodeTable
  t3b        : OpcodeTable
  regNames   : List (Designator × String)
  base5      : Base5Compare
  nslot      : Option Nat
  posBits    : Nat
deriving DecidableEq, Repr

end Sys2Proof
end

