-- ==== Sys2Proof/Machine/Params.lean ====
section
/-! DEFINITION. Lookups in the parameters and their default values: PREFIX_LIST, ESC, SEL_A, SEL_B (30_encoding.md R104,
R106), the example tables ETAB (95_test_vectors.md section 2) and the conventional register names (10_state.md R27). -/

namespace Sys2Proof

/-! ## Lookups -/

/-- The flag of the first entry of a prefix list whose byte is `v` (40_prefix_scanner.md R140, R141). -/
def firstFlag : List (Byte × PfxFlag) → Byte → Option PfxFlag
  | [], _ => none
  | e :: rest, v => if e.1 = v then some e.2 else firstFlag rest v

/-- The flag a byte sets, `none` when the byte is no prefix (R140: first-listed match). -/
def Params.prefixOf (p : Params) (v : Byte) : Option PfxFlag :=
  firstFlag p.prefixList v

/-- The first listed byte, if any, that sets the flag `f`: an entry shadowed by an earlier one is passed over. -/
def Params.byteOfFlag (p : Params) (f : PfxFlag) : Option Byte :=
  (p.prefixList.map Prod.fst).find? fun b => p.prefixOf b == some f

/-- The REX marker: high nibble 0100 (30_encoding.md R105). -/
def isRexByte (v : Byte) : Bool :=
  v.extractLsb' 4 4 == 4#4

/-- The cell of an opcode table: `none` or a descriptor, a pure function of the byte (20_memory.md R75). -/
def OpcodeTable.get (t : OpcodeTable) (key : Byte) : Option OpcodeDescriptor :=
  (t.cells.find? fun c => c.1 == key).map Prod.snd

/-- The table a request selects. -/
def Params.table (p : Params) : TableSel → OpcodeTable
  | .t1 => p.t1
  | .t2 => p.t2
  | .t3a => p.t3a
  | .t3b => p.t3b

/-- Opcode table lookup `Tk(byte)` (R75). -/
def Params.lookup (p : Params) (sel : TableSel) (key : Byte) : Option OpcodeDescriptor :=
  (p.table sel).get key

/-- REGNAME: total and pure (20_memory.md R76); a designator without a listed name has a table-defined one, which is
a free value here (10_state.md R27; 93 U5). -/
def Params.regName (p : Params) (d : Designator) : String :=
  match p.regNames.find? fun e => e.1 == d with
  | some e => e.2
  | none => Config.unlistedRegName d

/-! ## Default values -/

/-- The default PREFIX_LIST (R104). DESIGN CHOICE of the spec (92 D5): byte values PRESUMED, order of the source's
category list. Log 3. -/
def defaultPrefixList : List (Byte × PfxFlag) :=
  [(0xF0, .lock), (0x2E, .cs), (0x36, .ss), (0x3E, .ds), (0x26, .es), (0x64, .fs), (0x65, .gs),
   (0xF2, .repne), (0xF3, .rep), (0x2E, .hintNotTaken), (0x3E, .hintTaken), (0x66, .opsize), (0x67, .addrsize)]

/-- A descriptor without ModRM whose operands are the given FIXED ones. -/
def fixedDesc (tag : String) (operands : List OperandDescriptor) : OpcodeDescriptor :=
  { tag := ⟨tag⟩, operands := operands, modrm := false, r := none, m := none, rm := none }

/-- A FIXED operand with one literal (10_state.md R40). -/
def fixedOne (index : Nat) (text : String) : OperandDescriptor :=
  { kind := .fixed, index := index, alt0 := some ⟨text⟩, alt1 := none }

/-- A FIXED operand with two literals (R40). -/
def fixedTwo (index : Nat) (text0 text1 : String) : OperandDescriptor :=
  { kind := .fixed, index := index, alt0 := some ⟨text0⟩, alt1 := some ⟨text1⟩ }

/-- An operand that ModRM decoding fills. -/
def encodedOp (kind : OperandKind) (index : Nat) : OperandDescriptor :=
  { kind := kind, index := index, alt0 := none, alt1 := none }

/-- A descriptor with ModRM, its `r` and `rm` operands named by their places. -/
def modrmDesc (tag : String) (operands : List OperandDescriptor) (r rm : Nat) : OpcodeDescriptor :=
  { tag := ⟨tag⟩, operands := operands, modrm := true, r := some r, m := none, rm := some rm }

/-- ETAB's `T1(89)`: RM at index 0, GPR at index 1 (30_encoding.md R112; 95_test_vectors.md section 2). -/
def movStoreDesc : OpcodeDescriptor :=
  modrmDesc "mov" [encodedOp .rm 0, encodedOp .gpr 1] 1 0

/-- ETAB, table T1. -/
def etabT1 : OpcodeTable :=
  { cells :=
    [(0x01, modrmDesc "add" [encodedOp .rm 0, encodedOp .gpr 1] 1 0),
     (0x50, fixedDesc "push" [fixedTwo 0 "rax" "r8"]),
     (0x53, fixedDesc "push" [fixedTwo 0 "rbx" "r11"]),
     (0x55, fixedDesc "push" [fixedTwo 0 "rbp" "r13"]),
     (0x5D, fixedDesc "pop" [fixedTwo 0 "rbp" "r13"]),
     (0x89, movStoreDesc),
     (0x8B, modrmDesc "mov" [encodedOp .gpr 0, encodedOp .rm 1] 0 1),
     (0x8D, { tag := ⟨"lea"⟩, operands := [encodedOp .gpr 0, encodedOp .rm 1], modrm := true,
              r := some 0, m := some 1, rm := none }),
     (0x90, fixedDesc "nop" []),
     (0xC3, fixedDesc "ret" []),
     (0xCC, fixedDesc "int3" []),
     (0xEC, fixedDesc "in" [fixedOne 0 "al", fixedOne 1 "dx"])] }

/-- ETAB, table T2. -/
def etabT2 : OpcodeTable :=
  { cells :=
    [(0x05, fixedDesc "syscall" []),
     (0x28, modrmDesc "movaps" [encodedOp .xmm 0, encodedOp .xmm 1] 0 1),
     (0x6F, modrmDesc "movq" [encodedOp .mmx 0, encodedOp .mmx 1] 0 1),
     (0xA5, modrmDesc "shld" [encodedOp .rm 0, encodedOp .gpr 1, fixedOne 2 "cl"] 1 0),
     (0xAF, modrmDesc "imul" [encodedOp .gpr 0, encodedOp .rm 1] 0 1)] }

/-- ETAB, table T3A. -/
def etabT3A : OpcodeTable :=
  { cells := [(0x00, modrmDesc "pshufb" [encodedOp .mmx 0, encodedOp .mmx 1] 0 1)] }

/-- ETAB, table T3B. -/
def etabT3B : OpcodeTable :=
  { cells := [(0x0F, modrmDesc "palignr" [encodedOp .mmx 0, encodedOp .mmx 1] 0 1)] }

/-- Names of a class and width for the indices from `i` on. -/
def namesFrom (cls : RegClass) (width : Option Width) : Nat → List String → List (Designator × String)
  | _, [] => []
  | i, n :: rest => (⟨cls, width, BitVec.ofNat 4 i⟩, n) :: namesFrom cls width (i + 1) rest

/-- The conventional register names (10_state.md R27); MMX indices 8 to 15 have none. PRESUMED, log 5. -/
def conventionalNames : List (Designator × String) :=
  namesFrom .gpr (some .w64) 0 ["rax", "rcx", "rdx", "rbx", "rsp", "rbp", "rsi", "rdi",
    "r8", "r9", "r10", "r11", "r12", "r13", "r14", "r15"] ++
  namesFrom .gpr (some .w32) 0 ["eax", "ecx", "edx", "ebx", "esp", "ebp", "esi", "edi",
    "r8d", "r9d", "r10d", "r11d", "r12d", "r13d", "r14d", "r15d"] ++
  namesFrom .xmm none 0 ["xmm0", "xmm1", "xmm2", "xmm3", "xmm4", "xmm5", "xmm6", "xmm7",
    "xmm8", "xmm9", "xmm10", "xmm11", "xmm12", "xmm13", "xmm14", "xmm15"] ++
  namesFrom .mmx none 0 ["mm0", "mm1", "mm2", "mm3", "mm4", "mm5", "mm6", "mm7"]

/-- The default parameters (00_scope.md R9 and the OPEN table of 92_eei_decisions.md): the ones the spec's test
vectors use. DESIGN CHOICE, logs 3, 4 and 5. -/
def Params.default : Params :=
  { prefixList := defaultPrefixList
    esc := 0x0F
    selA := 0x38
    selB := 0x3A
    t1 := etabT1
    t2 := etabT2
    t3a := etabT3A
    t3b := etabT3B
    regNames := conventionalNames
    base5 := .extended
    nslot := none
    posBits := 64 }

end Sys2Proof
end

