-- ==== Sys2Proof/Syntax.lean ====
section
/-! DEFINITION. Instr: one constructor per row of spec/opcode_table.json (30_encoding.md R120), and what each row is.
The fields are the bits of the row that its meaning reads and, for an opcode, the key byte of its table. The ModRM
`reg` bits, which every MODRM and MODRM_SIB row but MODRM_REG leaves free, are a field of MODRM_REG alone: it applies to
every ModRM byte before the other row does (R120, 43_addressing_mode.md R191). -/

namespace Sys2Proof

/-- The three values of ModRM `mod` that name a memory form (30_encoding.md R107). -/
inductive MemMod where
  | m0 | m1 | m2
deriving DecidableEq, Repr

/-- The byte forms the block recognises (00_scope.md R15). The rows without a field stand last: Lean's compiled code
numbers no more than 244 constructors that have one. -/
inductive Instr where
  | rex (w r x b : Bool)
  | opcOneByte (o1 : Byte)
  | escTwoByte (o2 : Byte)
  | escThreeByteA (o3 : Byte)
  | escThreeByteB (o3 : Byte)
  | modrmReg (mod : BitVec 2) (reg rm : BitVec 3)
  | modrmRegdirectInvalid (rm : BitVec 3)
  | modrmRegdirect (rm : BitVec 3)
  | sibMod0Idx0Bs0 (ss : BitVec 2)
  | sibMod0Idx0Bs1 (ss : BitVec 2)
  | sibMod0Idx0Bs2 (ss : BitVec 2)
  | sibMod0Idx0Bs3 (ss : BitVec 2)
  | sibMod0Idx0Bs4 (ss : BitVec 2)
  | sibMod0Idx0Bs5B5 (ss : BitVec 2)
  | sibMod0Idx0Bs5B13 (ss : BitVec 2)
  | sibMod0Idx0Bs6 (ss : BitVec 2)
  | sibMod0Idx0Bs7 (ss : BitVec 2)
  | sibMod0Idx1Bs0 (ss : BitVec 2)
  | sibMod0Idx1Bs1 (ss : BitVec 2)
  | sibMod0Idx1Bs2 (ss : BitVec 2)
  | sibMod0Idx1Bs3 (ss : BitVec 2)
  | sibMod0Idx1Bs4 (ss : BitVec 2)
  | sibMod0Idx1Bs5B5 (ss : BitVec 2)
  | sibMod0Idx1Bs5B13 (ss : BitVec 2)
  | sibMod0Idx1Bs6 (ss : BitVec 2)
  | sibMod0Idx1Bs7 (ss : BitVec 2)
  | sibMod0Idx2Bs0 (ss : BitVec 2)
  | sibMod0Idx2Bs1 (ss : BitVec 2)
  | sibMod0Idx2Bs2 (ss : BitVec 2)
  | sibMod0Idx2Bs3 (ss : BitVec 2)
  | sibMod0Idx2Bs4 (ss : BitVec 2)
  | sibMod0Idx2Bs5B5 (ss : BitVec 2)
  | sibMod0Idx2Bs5B13 (ss : BitVec 2)
  | sibMod0Idx2Bs6 (ss : BitVec 2)
  | sibMod0Idx2Bs7 (ss : BitVec 2)
  | sibMod0Idx3Bs0 (ss : BitVec 2)
  | sibMod0Idx3Bs1 (ss : BitVec 2)
  | sibMod0Idx3Bs2 (ss : BitVec 2)
  | sibMod0Idx3Bs3 (ss : BitVec 2)
  | sibMod0Idx3Bs4 (ss : BitVec 2)
  | sibMod0Idx3Bs5B5 (ss : BitVec 2)
  | sibMod0Idx3Bs5B13 (ss : BitVec 2)
  | sibMod0Idx3Bs6 (ss : BitVec 2)
  | sibMod0Idx3Bs7 (ss : BitVec 2)
  | sibMod0Idx4Bs0 (ss : BitVec 2)
  | sibMod0Idx4Bs1 (ss : BitVec 2)
  | sibMod0Idx4Bs2 (ss : BitVec 2)
  | sibMod0Idx4Bs3 (ss : BitVec 2)
  | sibMod0Idx4Bs4 (ss : BitVec 2)
  | sibMod0Idx4Bs5B5 (ss : BitVec 2)
  | sibMod0Idx4Bs5B13 (ss : BitVec 2)
  | sibMod0Idx4Bs6 (ss : BitVec 2)
  | sibMod0Idx4Bs7 (ss : BitVec 2)
  | sibMod0Idx5Bs0 (ss : BitVec 2)
  | sibMod0Idx5Bs1 (ss : BitVec 2)
  | sibMod0Idx5Bs2 (ss : BitVec 2)
  | sibMod0Idx5Bs3 (ss : BitVec 2)
  | sibMod0Idx5Bs4 (ss : BitVec 2)
  | sibMod0Idx5Bs5B5 (ss : BitVec 2)
  | sibMod0Idx5Bs5B13 (ss : BitVec 2)
  | sibMod0Idx5Bs6 (ss : BitVec 2)
  | sibMod0Idx5Bs7 (ss : BitVec 2)
  | sibMod0Idx6Bs0 (ss : BitVec 2)
  | sibMod0Idx6Bs1 (ss : BitVec 2)
  | sibMod0Idx6Bs2 (ss : BitVec 2)
  | sibMod0Idx6Bs3 (ss : BitVec 2)
  | sibMod0Idx6Bs4 (ss : BitVec 2)
  | sibMod0Idx6Bs5B5 (ss : BitVec 2)
  | sibMod0Idx6Bs5B13 (ss : BitVec 2)
  | sibMod0Idx6Bs6 (ss : BitVec 2)
  | sibMod0Idx6Bs7 (ss : BitVec 2)
  | sibMod0Idx7Bs0 (ss : BitVec 2)
  | sibMod0Idx7Bs1 (ss : BitVec 2)
  | sibMod0Idx7Bs2 (ss : BitVec 2)
  | sibMod0Idx7Bs3 (ss : BitVec 2)
  | sibMod0Idx7Bs4 (ss : BitVec 2)
  | sibMod0Idx7Bs5B5 (ss : BitVec 2)
  | sibMod0Idx7Bs5B13 (ss : BitVec 2)
  | sibMod0Idx7Bs6 (ss : BitVec 2)
  | sibMod0Idx7Bs7 (ss : BitVec 2)
  | sibMod1Idx0Bs0 (ss : BitVec 2)
  | sibMod1Idx0Bs1 (ss : BitVec 2)
  | sibMod1Idx0Bs2 (ss : BitVec 2)
  | sibMod1Idx0Bs3 (ss : BitVec 2)
  | sibMod1Idx0Bs4 (ss : BitVec 2)
  | sibMod1Idx0Bs5B5 (ss : BitVec 2)
  | sibMod1Idx0Bs5B13 (ss : BitVec 2)
  | sibMod1Idx0Bs6 (ss : BitVec 2)
  | sibMod1Idx0Bs7 (ss : BitVec 2)
  | sibMod1Idx1Bs0 (ss : BitVec 2)
  | sibMod1Idx1Bs1 (ss : BitVec 2)
  | sibMod1Idx1Bs2 (ss : BitVec 2)
  | sibMod1Idx1Bs3 (ss : BitVec 2)
  | sibMod1Idx1Bs4 (ss : BitVec 2)
  | sibMod1Idx1Bs5B5 (ss : BitVec 2)
  | sibMod1Idx1Bs5B13 (ss : BitVec 2)
  | sibMod1Idx1Bs6 (ss : BitVec 2)
  | sibMod1Idx1Bs7 (ss : BitVec 2)
  | sibMod1Idx2Bs0 (ss : BitVec 2)
  | sibMod1Idx2Bs1 (ss : BitVec 2)
  | sibMod1Idx2Bs2 (ss : BitVec 2)
  | sibMod1Idx2Bs3 (ss : BitVec 2)
  | sibMod1Idx2Bs4 (ss : BitVec 2)
  | sibMod1Idx2Bs5B5 (ss : BitVec 2)
  | sibMod1Idx2Bs5B13 (ss : BitVec 2)
  | sibMod1Idx2Bs6 (ss : BitVec 2)
  | sibMod1Idx2Bs7 (ss : BitVec 2)
  | sibMod1Idx3Bs0 (ss : BitVec 2)
  | sibMod1Idx3Bs1 (ss : BitVec 2)
  | sibMod1Idx3Bs2 (ss : BitVec 2)
  | sibMod1Idx3Bs3 (ss : BitVec 2)
  | sibMod1Idx3Bs4 (ss : BitVec 2)
  | sibMod1Idx3Bs5B5 (ss : BitVec 2)
  | sibMod1Idx3Bs5B13 (ss : BitVec 2)
  | sibMod1Idx3Bs6 (ss : BitVec 2)
  | sibMod1Idx3Bs7 (ss : BitVec 2)
  | sibMod1Idx4Bs0 (ss : BitVec 2)
  | sibMod1Idx4Bs1 (ss : BitVec 2)
  | sibMod1Idx4Bs2 (ss : BitVec 2)
  | sibMod1Idx4Bs3 (ss : BitVec 2)
  | sibMod1Idx4Bs4 (ss : BitVec 2)
  | sibMod1Idx4Bs5B5 (ss : BitVec 2)
  | sibMod1Idx4Bs5B13 (ss : BitVec 2)
  | sibMod1Idx4Bs6 (ss : BitVec 2)
  | sibMod1Idx4Bs7 (ss : BitVec 2)
  | sibMod1Idx5Bs0 (ss : BitVec 2)
  | sibMod1Idx5Bs1 (ss : BitVec 2)
  | sibMod1Idx5Bs2 (ss : BitVec 2)
  | sibMod1Idx5Bs3 (ss : BitVec 2)
  | sibMod1Idx5Bs4 (ss : BitVec 2)
  | sibMod1Idx5Bs5B5 (ss : BitVec 2)
  | sibMod1Idx5Bs5B13 (ss : BitVec 2)
  | sibMod1Idx5Bs6 (ss : BitVec 2)
  | sibMod1Idx5Bs7 (ss : BitVec 2)
  | sibMod1Idx6Bs0 (ss : BitVec 2)
  | sibMod1Idx6Bs1 (ss : BitVec 2)
  | sibMod1Idx6Bs2 (ss : BitVec 2)
  | sibMod1Idx6Bs3 (ss : BitVec 2)
  | sibMod1Idx6Bs4 (ss : BitVec 2)
  | sibMod1Idx6Bs5B5 (ss : BitVec 2)
  | sibMod1Idx6Bs5B13 (ss : BitVec 2)
  | sibMod1Idx6Bs6 (ss : BitVec 2)
  | sibMod1Idx6Bs7 (ss : BitVec 2)
  | sibMod1Idx7Bs0 (ss : BitVec 2)
  | sibMod1Idx7Bs1 (ss : BitVec 2)
  | sibMod1Idx7Bs2 (ss : BitVec 2)
  | sibMod1Idx7Bs3 (ss : BitVec 2)
  | sibMod1Idx7Bs4 (ss : BitVec 2)
  | sibMod1Idx7Bs5B5 (ss : BitVec 2)
  | sibMod1Idx7Bs5B13 (ss : BitVec 2)
  | sibMod1Idx7Bs6 (ss : BitVec 2)
  | sibMod1Idx7Bs7 (ss : BitVec 2)
  | sibMod2Idx0Bs0 (ss : BitVec 2)
  | sibMod2Idx0Bs1 (ss : BitVec 2)
  | sibMod2Idx0Bs2 (ss : BitVec 2)
  | sibMod2Idx0Bs3 (ss : BitVec 2)
  | sibMod2Idx0Bs4 (ss : BitVec 2)
  | sibMod2Idx0Bs5B5 (ss : BitVec 2)
  | sibMod2Idx0Bs5B13 (ss : BitVec 2)
  | sibMod2Idx0Bs6 (ss : BitVec 2)
  | sibMod2Idx0Bs7 (ss : BitVec 2)
  | sibMod2Idx1Bs0 (ss : BitVec 2)
  | sibMod2Idx1Bs1 (ss : BitVec 2)
  | sibMod2Idx1Bs2 (ss : BitVec 2)
  | sibMod2Idx1Bs3 (ss : BitVec 2)
  | sibMod2Idx1Bs4 (ss : BitVec 2)
  | sibMod2Idx1Bs5B5 (ss : BitVec 2)
  | sibMod2Idx1Bs5B13 (ss : BitVec 2)
  | sibMod2Idx1Bs6 (ss : BitVec 2)
  | sibMod2Idx1Bs7 (ss : BitVec 2)
  | sibMod2Idx2Bs0 (ss : BitVec 2)
  | sibMod2Idx2Bs1 (ss : BitVec 2)
  | sibMod2Idx2Bs2 (ss : BitVec 2)
  | sibMod2Idx2Bs3 (ss : BitVec 2)
  | sibMod2Idx2Bs4 (ss : BitVec 2)
  | sibMod2Idx2Bs5B5 (ss : BitVec 2)
  | sibMod2Idx2Bs5B13 (ss : BitVec 2)
  | sibMod2Idx2Bs6 (ss : BitVec 2)
  | sibMod2Idx2Bs7 (ss : BitVec 2)
  | sibMod2Idx3Bs0 (ss : BitVec 2)
  | sibMod2Idx3Bs1 (ss : BitVec 2)
  | sibMod2Idx3Bs2 (ss : BitVec 2)
  | sibMod2Idx3Bs3 (ss : BitVec 2)
  | sibMod2Idx3Bs4 (ss : BitVec 2)
  | sibMod2Idx3Bs5B5 (ss : BitVec 2)
  | sibMod2Idx3Bs5B13 (ss : BitVec 2)
  | sibMod2Idx3Bs6 (ss : BitVec 2)
  | sibMod2Idx3Bs7 (ss : BitVec 2)
  | sibMod2Idx4Bs0 (ss : BitVec 2)
  | sibMod2Idx4Bs1 (ss : BitVec 2)
  | sibMod2Idx4Bs2 (ss : BitVec 2)
  | sibMod2Idx4Bs3 (ss : BitVec 2)
  | sibMod2Idx4Bs4 (ss : BitVec 2)
  | sibMod2Idx4Bs5B5 (ss : BitVec 2)
  | sibMod2Idx4Bs5B13 (ss : BitVec 2)
  | sibMod2Idx4Bs6 (ss : BitVec 2)
  | sibMod2Idx4Bs7 (ss : BitVec 2)
  | sibMod2Idx5Bs0 (ss : BitVec 2)
  | sibMod2Idx5Bs1 (ss : BitVec 2)
  | sibMod2Idx5Bs2 (ss : BitVec 2)
  | sibMod2Idx5Bs3 (ss : BitVec 2)
  | sibMod2Idx5Bs4 (ss : BitVec 2)
  | sibMod2Idx5Bs5B5 (ss : BitVec 2)
  | sibMod2Idx5Bs5B13 (ss : BitVec 2)
  | sibMod2Idx5Bs6 (ss : BitVec 2)
  | sibMod2Idx5Bs7 (ss : BitVec 2)
  | sibMod2Idx6Bs0 (ss : BitVec 2)
  | sibMod2Idx6Bs1 (ss : BitVec 2)
  | sibMod2Idx6Bs2 (ss : BitVec 2)
  | sibMod2Idx6Bs3 (ss : BitVec 2)
  | sibMod2Idx6Bs4 (ss : BitVec 2)
  | sibMod2Idx6Bs5B5 (ss : BitVec 2)
  | sibMod2Idx6Bs5B13 (ss : BitVec 2)
  | sibMod2Idx6Bs6 (ss : BitVec 2)
  | sibMod2Idx6Bs7 (ss : BitVec 2)
  | sibMod2Idx7Bs0 (ss : BitVec 2)
  | sibMod2Idx7Bs1 (ss : BitVec 2)
  | sibMod2Idx7Bs2 (ss : BitVec 2)
  | sibMod2Idx7Bs3 (ss : BitVec 2)
  | sibMod2Idx7Bs4 (ss : BitVec 2)
  | sibMod2Idx7Bs5B5 (ss : BitVec 2)
  | sibMod2Idx7Bs5B13 (ss : BitVec 2)
  | sibMod2Idx7Bs6 (ss : BitVec 2)
  | sibMod2Idx7Bs7 (ss : BitVec 2)
  | pfxLock
  | pfxCs
  | pfxSs
  | pfxDs
  | pfxEs
  | pfxFs
  | pfxGs
  | pfxRepne
  | pfxRep
  | pfxHintNotTaken
  | pfxHintTaken
  | pfxOpsize
  | pfxAddrsize
  | t1C3
  | t189
  | modrmSibFollowsMod0
  | modrmSibFollowsMod1
  | modrmSibFollowsMod2
  | modrmMemMod0Rm0Rexx
  | modrmMemMod0Rm0
  | modrmMemMod0Rm1Rexx
  | modrmMemMod0Rm1
  | modrmMemMod0Rm2Rexx
  | modrmMemMod0Rm2
  | modrmMemMod0Rm3Rexx
  | modrmMemMod0Rm3
  | modrmMemMod0Rm5Rexx
  | modrmMemMod0Rm5
  | modrmMemMod0Rm6Rexx
  | modrmMemMod0Rm6
  | modrmMemMod0Rm7Rexx
  | modrmMemMod0Rm7
  | modrmMemMod1Rm0Rexx
  | modrmMemMod1Rm0
  | modrmMemMod1Rm1Rexx
  | modrmMemMod1Rm1
  | modrmMemMod1Rm2Rexx
  | modrmMemMod1Rm2
  | modrmMemMod1Rm3Rexx
  | modrmMemMod1Rm3
  | modrmMemMod1Rm5Rexx
  | modrmMemMod1Rm5
  | modrmMemMod1Rm6Rexx
  | modrmMemMod1Rm6
  | modrmMemMod1Rm7Rexx
  | modrmMemMod1Rm7
  | modrmMemMod2Rm0Rexx
  | modrmMemMod2Rm0
  | modrmMemMod2Rm1Rexx
  | modrmMemMod2Rm1
  | modrmMemMod2Rm2Rexx
  | modrmMemMod2Rm2
  | modrmMemMod2Rm3Rexx
  | modrmMemMod2Rm3
  | modrmMemMod2Rm5Rexx
  | modrmMemMod2Rm5
  | modrmMemMod2Rm6Rexx
  | modrmMemMod2Rm6
  | modrmMemMod2Rm7Rexx
  | modrmMemMod2Rm7
deriving DecidableEq, Repr

/-- The formats of 30_encoding.md R120, with the fields the row fixes and the fields it leaves free:
`cell` is an OPCODE1 row, `reg` is MODRM_REG, `direct` a `mod == 3` row (its Bool: DESC.m present), `follows` a
"SIB follows" row, `mem` a no-SIB memory row (its Bool: REX.x), `sib` a MODRM_SIB row (its Bool: the base-5 row). -/
inductive Row where
  | pfx (f : PfxFlag)
  | rexByte (w r x b : Bool)
  | oneByte (o1 : Byte)
  | twoByte (o2 : Byte)
  | threeByteA (o3 : Byte)
  | threeByteB (o3 : Byte)
  | cell (o1 : Byte)
  | reg (mod : BitVec 2) (reg rm : BitVec 3)
  | direct (memOnly : Bool) (rm : BitVec 3)
  | follows (mod : MemMod)
  | mem (mod : MemMod) (rm : BitVec 3) (rexX : Bool)
  | sib (mod : MemMod) (idx bs : BitVec 3) (base5 : Bool) (ss : BitVec 2)
deriving DecidableEq, Repr

/-- What each row of the opcode table fixes and leaves free, row by row. -/
def Instr.row : Instr → Row
  | .pfxLock => .pfx .lock
  | .pfxCs => .pfx .cs
  | .pfxSs => .pfx .ss
  | .pfxDs => .pfx .ds
  | .pfxEs => .pfx .es
  | .pfxFs => .pfx .fs
  | .pfxGs => .pfx .gs
  | .pfxRepne => .pfx .repne
  | .pfxRep => .pfx .rep
  | .pfxHintNotTaken => .pfx .hintNotTaken
  | .pfxHintTaken => .pfx .hintTaken
  | .pfxOpsize => .pfx .opsize
  | .pfxAddrsize => .pfx .addrsize
  | .rex w r x b => .rexByte w r x b
  | .opcOneByte o1 => .oneByte o1
  | .escTwoByte o2 => .twoByte o2
  | .escThreeByteA o3 => .threeByteA o3
  | .escThreeByteB o3 => .threeByteB o3
  | .t1C3 => .cell 0xC3#8
  | .t189 => .cell 0x89#8
  | .modrmReg mod reg rm => .reg mod reg rm
  | .modrmRegdirectInvalid rm => .direct true rm
  | .modrmRegdirect rm => .direct false rm
  | .modrmSibFollowsMod0 => .follows .m0
  | .modrmSibFollowsMod1 => .follows .m1
  | .modrmSibFollowsMod2 => .follows .m2
  | .modrmMemMod0Rm0Rexx => .mem .m0 0#3 true
  | .modrmMemMod0Rm0 => .mem .m0 0#3 false
  | .modrmMemMod0Rm1Rexx => .mem .m0 1#3 true
  | .modrmMemMod0Rm1 => .mem .m0 1#3 false
  | .modrmMemMod0Rm2Rexx => .mem .m0 2#3 true
  | .modrmMemMod0Rm2 => .mem .m0 2#3 false
  | .modrmMemMod0Rm3Rexx => .mem .m0 3#3 true
  | .modrmMemMod0Rm3 => .mem .m0 3#3 false
  | .modrmMemMod0Rm5Rexx => .mem .m0 5#3 true
  | .modrmMemMod0Rm5 => .mem .m0 5#3 false
  | .modrmMemMod0Rm6Rexx => .mem .m0 6#3 true
  | .modrmMemMod0Rm6 => .mem .m0 6#3 false
  | .modrmMemMod0Rm7Rexx => .mem .m0 7#3 true
  | .modrmMemMod0Rm7 => .mem .m0 7#3 false
  | .modrmMemMod1Rm0Rexx => .mem .m1 0#3 true
  | .modrmMemMod1Rm0 => .mem .m1 0#3 false
  | .modrmMemMod1Rm1Rexx => .mem .m1 1#3 true
  | .modrmMemMod1Rm1 => .mem .m1 1#3 false
  | .modrmMemMod1Rm2Rexx => .mem .m1 2#3 true
  | .modrmMemMod1Rm2 => .mem .m1 2#3 false
  | .modrmMemMod1Rm3Rexx => .mem .m1 3#3 true
  | .modrmMemMod1Rm3 => .mem .m1 3#3 false
  | .modrmMemMod1Rm5Rexx => .mem .m1 5#3 true
  | .modrmMemMod1Rm5 => .mem .m1 5#3 false
  | .modrmMemMod1Rm6Rexx => .mem .m1 6#3 true
  | .modrmMemMod1Rm6 => .mem .m1 6#3 false
  | .modrmMemMod1Rm7Rexx => .mem .m1 7#3 true
  | .modrmMemMod1Rm7 => .mem .m1 7#3 false
  | .modrmMemMod2Rm0Rexx => .mem .m2 0#3 true
  | .modrmMemMod2Rm0 => .mem .m2 0#3 false
  | .modrmMemMod2Rm1Rexx => .mem .m2 1#3 true
  | .modrmMemMod2Rm1 => .mem .m2 1#3 false
  | .modrmMemMod2Rm2Rexx => .mem .m2 2#3 true
  | .modrmMemMod2Rm2 => .mem .m2 2#3 false
  | .modrmMemMod2Rm3Rexx => .mem .m2 3#3 true
  | .modrmMemMod2Rm3 => .mem .m2 3#3 false
  | .modrmMemMod2Rm5Rexx => .mem .m2 5#3 true
  | .modrmMemMod2Rm5 => .mem .m2 5#3 false
  | .modrmMemMod2Rm6Rexx => .mem .m2 6#3 true
  | .modrmMemMod2Rm6 => .mem .m2 6#3 false
  | .modrmMemMod2Rm7Rexx => .mem .m2 7#3 true
  | .modrmMemMod2Rm7 => .mem .m2 7#3 false
  | .sibMod0Idx0Bs0 ss => .sib .m0 0#3 0#3 false ss
  | .sibMod0Idx0Bs1 ss => .sib .m0 0#3 1#3 false ss
  | .sibMod0Idx0Bs2 ss => .sib .m0 0#3 2#3 false ss
  | .sibMod0Idx0Bs3 ss => .sib .m0 0#3 3#3 false ss
  | .sibMod0Idx0Bs4 ss => .sib .m0 0#3 4#3 false ss
  | .sibMod0Idx0Bs5B5 ss => .sib .m0 0#3 5#3 true ss
  | .sibMod0Idx0Bs5B13 ss => .sib .m0 0#3 5#3 false ss
  | .sibMod0Idx0Bs6 ss => .sib .m0 0#3 6#3 false ss
  | .sibMod0Idx0Bs7 ss => .sib .m0 0#3 7#3 false ss
  | .sibMod0Idx1Bs0 ss => .sib .m0 1#3 0#3 false ss
  | .sibMod0Idx1Bs1 ss => .sib .m0 1#3 1#3 false ss
  | .sibMod0Idx1Bs2 ss => .sib .m0 1#3 2#3 false ss
  | .sibMod0Idx1Bs3 ss => .sib .m0 1#3 3#3 false ss
  | .sibMod0Idx1Bs4 ss => .sib .m0 1#3 4#3 false ss
  | .sibMod0Idx1Bs5B5 ss => .sib .m0 1#3 5#3 true ss
  | .sibMod0Idx1Bs5B13 ss => .sib .m0 1#3 5#3 false ss
  | .sibMod0Idx1Bs6 ss => .sib .m0 1#3 6#3 false ss
  | .sibMod0Idx1Bs7 ss => .sib .m0 1#3 7#3 false ss
  | .sibMod0Idx2Bs0 ss => .sib .m0 2#3 0#3 false ss
  | .sibMod0Idx2Bs1 ss => .sib .m0 2#3 1#3 false ss
  | .sibMod0Idx2Bs2 ss => .sib .m0 2#3 2#3 false ss
  | .sibMod0Idx2Bs3 ss => .sib .m0 2#3 3#3 false ss
  | .sibMod0Idx2Bs4 ss => .sib .m0 2#3 4#3 false ss
  | .sibMod0Idx2Bs5B5 ss => .sib .m0 2#3 5#3 true ss
  | .sibMod0Idx2Bs5B13 ss => .sib .m0 2#3 5#3 false ss
  | .sibMod0Idx2Bs6 ss => .sib .m0 2#3 6#3 false ss
  | .sibMod0Idx2Bs7 ss => .sib .m0 2#3 7#3 false ss
  | .sibMod0Idx3Bs0 ss => .sib .m0 3#3 0#3 false ss
  | .sibMod0Idx3Bs1 ss => .sib .m0 3#3 1#3 false ss
  | .sibMod0Idx3Bs2 ss => .sib .m0 3#3 2#3 false ss
  | .sibMod0Idx3Bs3 ss => .sib .m0 3#3 3#3 false ss
  | .sibMod0Idx3Bs4 ss => .sib .m0 3#3 4#3 false ss
  | .sibMod0Idx3Bs5B5 ss => .sib .m0 3#3 5#3 true ss
  | .sibMod0Idx3Bs5B13 ss => .sib .m0 3#3 5#3 false ss
  | .sibMod0Idx3Bs6 ss => .sib .m0 3#3 6#3 false ss
  | .sibMod0Idx3Bs7 ss => .sib .m0 3#3 7#3 false ss
  | .sibMod0Idx4Bs0 ss => .sib .m0 4#3 0#3 false ss
  | .sibMod0Idx4Bs1 ss => .sib .m0 4#3 1#3 false ss
  | .sibMod0Idx4Bs2 ss => .sib .m0 4#3 2#3 false ss
  | .sibMod0Idx4Bs3 ss => .sib .m0 4#3 3#3 false ss
  | .sibMod0Idx4Bs4 ss => .sib .m0 4#3 4#3 false ss
  | .sibMod0Idx4Bs5B5 ss => .sib .m0 4#3 5#3 true ss
  | .sibMod0Idx4Bs5B13 ss => .sib .m0 4#3 5#3 false ss
  | .sibMod0Idx4Bs6 ss => .sib .m0 4#3 6#3 false ss
  | .sibMod0Idx4Bs7 ss => .sib .m0 4#3 7#3 false ss
  | .sibMod0Idx5Bs0 ss => .sib .m0 5#3 0#3 false ss
  | .sibMod0Idx5Bs1 ss => .sib .m0 5#3 1#3 false ss
  | .sibMod0Idx5Bs2 ss => .sib .m0 5#3 2#3 false ss
  | .sibMod0Idx5Bs3 ss => .sib .m0 5#3 3#3 false ss
  | .sibMod0Idx5Bs4 ss => .sib .m0 5#3 4#3 false ss
  | .sibMod0Idx5Bs5B5 ss => .sib .m0 5#3 5#3 true ss
  | .sibMod0Idx5Bs5B13 ss => .sib .m0 5#3 5#3 false ss
  | .sibMod0Idx5Bs6 ss => .sib .m0 5#3 6#3 false ss
  | .sibMod0Idx5Bs7 ss => .sib .m0 5#3 7#3 false ss
  | .sibMod0Idx6Bs0 ss => .sib .m0 6#3 0#3 false ss
  | .sibMod0Idx6Bs1 ss => .sib .m0 6#3 1#3 false ss
  | .sibMod0Idx6Bs2 ss => .sib .m0 6#3 2#3 false ss
  | .sibMod0Idx6Bs3 ss => .sib .m0 6#3 3#3 false ss
  | .sibMod0Idx6Bs4 ss => .sib .m0 6#3 4#3 false ss
  | .sibMod0Idx6Bs5B5 ss => .sib .m0 6#3 5#3 true ss
  | .sibMod0Idx6Bs5B13 ss => .sib .m0 6#3 5#3 false ss
  | .sibMod0Idx6Bs6 ss => .sib .m0 6#3 6#3 false ss
  | .sibMod0Idx6Bs7 ss => .sib .m0 6#3 7#3 false ss
  | .sibMod0Idx7Bs0 ss => .sib .m0 7#3 0#3 false ss
  | .sibMod0Idx7Bs1 ss => .sib .m0 7#3 1#3 false ss
  | .sibMod0Idx7Bs2 ss => .sib .m0 7#3 2#3 false ss
  | .sibMod0Idx7Bs3 ss => .sib .m0 7#3 3#3 false ss
  | .sibMod0Idx7Bs4 ss => .sib .m0 7#3 4#3 false ss
  | .sibMod0Idx7Bs5B5 ss => .sib .m0 7#3 5#3 true ss
  | .sibMod0Idx7Bs5B13 ss => .sib .m0 7#3 5#3 false ss
  | .sibMod0Idx7Bs6 ss => .sib .m0 7#3 6#3 false ss
  | .sibMod0Idx7Bs7 ss => .sib .m0 7#3 7#3 false ss
  | .sibMod1Idx0Bs0 ss => .sib .m1 0#3 0#3 false ss
  | .sibMod1Idx0Bs1 ss => .sib .m1 0#3 1#3 false ss
  | .sibMod1Idx0Bs2 ss => .sib .m1 0#3 2#3 false ss
  | .sibMod1Idx0Bs3 ss => .sib .m1 0#3 3#3 false ss
  | .sibMod1Idx0Bs4 ss => .sib .m1 0#3 4#3 false ss
  | .sibMod1Idx0Bs5B5 ss => .sib .m1 0#3 5#3 true ss
  | .sibMod1Idx0Bs5B13 ss => .sib .m1 0#3 5#3 false ss
  | .sibMod1Idx0Bs6 ss => .sib .m1 0#3 6#3 false ss
  | .sibMod1Idx0Bs7 ss => .sib .m1 0#3 7#3 false ss
  | .sibMod1Idx1Bs0 ss => .sib .m1 1#3 0#3 false ss
  | .sibMod1Idx1Bs1 ss => .sib .m1 1#3 1#3 false ss
  | .sibMod1Idx1Bs2 ss => .sib .m1 1#3 2#3 false ss
  | .sibMod1Idx1Bs3 ss => .sib .m1 1#3 3#3 false ss
  | .sibMod1Idx1Bs4 ss => .sib .m1 1#3 4#3 false ss
  | .sibMod1Idx1Bs5B5 ss => .sib .m1 1#3 5#3 true ss
  | .sibMod1Idx1Bs5B13 ss => .sib .m1 1#3 5#3 false ss
  | .sibMod1Idx1Bs6 ss => .sib .m1 1#3 6#3 false ss
  | .sibMod1Idx1Bs7 ss => .sib .m1 1#3 7#3 false ss
  | .sibMod1Idx2Bs0 ss => .sib .m1 2#3 0#3 false ss
  | .sibMod1Idx2Bs1 ss => .sib .m1 2#3 1#3 false ss
  | .sibMod1Idx2Bs2 ss => .sib .m1 2#3 2#3 false ss
  | .sibMod1Idx2Bs3 ss => .sib .m1 2#3 3#3 false ss
  | .sibMod1Idx2Bs4 ss => .sib .m1 2#3 4#3 false ss
  | .sibMod1Idx2Bs5B5 ss => .sib .m1 2#3 5#3 true ss
  | .sibMod1Idx2Bs5B13 ss => .sib .m1 2#3 5#3 false ss
  | .sibMod1Idx2Bs6 ss => .sib .m1 2#3 6#3 false ss
  | .sibMod1Idx2Bs7 ss => .sib .m1 2#3 7#3 false ss
  | .sibMod1Idx3Bs0 ss => .sib .m1 3#3 0#3 false ss
  | .sibMod1Idx3Bs1 ss => .sib .m1 3#3 1#3 false ss
  | .sibMod1Idx3Bs2 ss => .sib .m1 3#3 2#3 false ss
  | .sibMod1Idx3Bs3 ss => .sib .m1 3#3 3#3 false ss
  | .sibMod1Idx3Bs4 ss => .sib .m1 3#3 4#3 false ss
  | .sibMod1Idx3Bs5B5 ss => .sib .m1 3#3 5#3 true ss
  | .sibMod1Idx3Bs5B13 ss => .sib .m1 3#3 5#3 false ss
  | .sibMod1Idx3Bs6 ss => .sib .m1 3#3 6#3 false ss
  | .sibMod1Idx3Bs7 ss => .sib .m1 3#3 7#3 false ss
  | .sibMod1Idx4Bs0 ss => .sib .m1 4#3 0#3 false ss
  | .sibMod1Idx4Bs1 ss => .sib .m1 4#3 1#3 false ss
  | .sibMod1Idx4Bs2 ss => .sib .m1 4#3 2#3 false ss
  | .sibMod1Idx4Bs3 ss => .sib .m1 4#3 3#3 false ss
  | .sibMod1Idx4Bs4 ss => .sib .m1 4#3 4#3 false ss
  | .sibMod1Idx4Bs5B5 ss => .sib .m1 4#3 5#3 true ss
  | .sibMod1Idx4Bs5B13 ss => .sib .m1 4#3 5#3 false ss
  | .sibMod1Idx4Bs6 ss => .sib .m1 4#3 6#3 false ss
  | .sibMod1Idx4Bs7 ss => .sib .m1 4#3 7#3 false ss
  | .sibMod1Idx5Bs0 ss => .sib .m1 5#3 0#3 false ss
  | .sibMod1Idx5Bs1 ss => .sib .m1 5#3 1#3 false ss
  | .sibMod1Idx5Bs2 ss => .sib .m1 5#3 2#3 false ss
  | .sibMod1Idx5Bs3 ss => .sib .m1 5#3 3#3 false ss
  | .sibMod1Idx5Bs4 ss => .sib .m1 5#3 4#3 false ss
  | .sibMod1Idx5Bs5B5 ss => .sib .m1 5#3 5#3 true ss
  | .sibMod1Idx5Bs5B13 ss => .sib .m1 5#3 5#3 false ss
  | .sibMod1Idx5Bs6 ss => .sib .m1 5#3 6#3 false ss
  | .sibMod1Idx5Bs7 ss => .sib .m1 5#3 7#3 false ss
  | .sibMod1Idx6Bs0 ss => .sib .m1 6#3 0#3 false ss
  | .sibMod1Idx6Bs1 ss => .sib .m1 6#3 1#3 false ss
  | .sibMod1Idx6Bs2 ss => .sib .m1 6#3 2#3 false ss
  | .sibMod1Idx6Bs3 ss => .sib .m1 6#3 3#3 false ss
  | .sibMod1Idx6Bs4 ss => .sib .m1 6#3 4#3 false ss
  | .sibMod1Idx6Bs5B5 ss => .sib .m1 6#3 5#3 true ss
  | .sibMod1Idx6Bs5B13 ss => .sib .m1 6#3 5#3 false ss
  | .sibMod1Idx6Bs6 ss => .sib .m1 6#3 6#3 false ss
  | .sibMod1Idx6Bs7 ss => .sib .m1 6#3 7#3 false ss
  | .sibMod1Idx7Bs0 ss => .sib .m1 7#3 0#3 false ss
  | .sibMod1Idx7Bs1 ss => .sib .m1 7#3 1#3 false ss
  | .sibMod1Idx7Bs2 ss => .sib .m1 7#3 2#3 false ss
  | .sibMod1Idx7Bs3 ss => .sib .m1 7#3 3#3 false ss
  | .sibMod1Idx7Bs4 ss => .sib .m1 7#3 4#3 false ss
  | .sibMod1Idx7Bs5B5 ss => .sib .m1 7#3 5#3 true ss
  | .sibMod1Idx7Bs5B13 ss => .sib .m1 7#3 5#3 false ss
  | .sibMod1Idx7Bs6 ss => .sib .m1 7#3 6#3 false ss
  | .sibMod1Idx7Bs7 ss => .sib .m1 7#3 7#3 false ss
  | .sibMod2Idx0Bs0 ss => .sib .m2 0#3 0#3 false ss
  | .sibMod2Idx0Bs1 ss => .sib .m2 0#3 1#3 false ss
  | .sibMod2Idx0Bs2 ss => .sib .m2 0#3 2#3 false ss
  | .sibMod2Idx0Bs3 ss => .sib .m2 0#3 3#3 false ss
  | .sibMod2Idx0Bs4 ss => .sib .m2 0#3 4#3 false ss
  | .sibMod2Idx0Bs5B5 ss => .sib .m2 0#3 5#3 true ss
  | .sibMod2Idx0Bs5B13 ss => .sib .m2 0#3 5#3 false ss
  | .sibMod2Idx0Bs6 ss => .sib .m2 0#3 6#3 false ss
  | .sibMod2Idx0Bs7 ss => .sib .m2 0#3 7#3 false ss
  | .sibMod2Idx1Bs0 ss => .sib .m2 1#3 0#3 false ss
  | .sibMod2Idx1Bs1 ss => .sib .m2 1#3 1#3 false ss
  | .sibMod2Idx1Bs2 ss => .sib .m2 1#3 2#3 false ss
  | .sibMod2Idx1Bs3 ss => .sib .m2 1#3 3#3 false ss
  | .sibMod2Idx1Bs4 ss => .sib .m2 1#3 4#3 false ss
  | .sibMod2Idx1Bs5B5 ss => .sib .m2 1#3 5#3 true ss
  | .sibMod2Idx1Bs5B13 ss => .sib .m2 1#3 5#3 false ss
  | .sibMod2Idx1Bs6 ss => .sib .m2 1#3 6#3 false ss
  | .sibMod2Idx1Bs7 ss => .sib .m2 1#3 7#3 false ss
  | .sibMod2Idx2Bs0 ss => .sib .m2 2#3 0#3 false ss
  | .sibMod2Idx2Bs1 ss => .sib .m2 2#3 1#3 false ss
  | .sibMod2Idx2Bs2 ss => .sib .m2 2#3 2#3 false ss
  | .sibMod2Idx2Bs3 ss => .sib .m2 2#3 3#3 false ss
  | .sibMod2Idx2Bs4 ss => .sib .m2 2#3 4#3 false ss
  | .sibMod2Idx2Bs5B5 ss => .sib .m2 2#3 5#3 true ss
  | .sibMod2Idx2Bs5B13 ss => .sib .m2 2#3 5#3 false ss
  | .sibMod2Idx2Bs6 ss => .sib .m2 2#3 6#3 false ss
  | .sibMod2Idx2Bs7 ss => .sib .m2 2#3 7#3 false ss
  | .sibMod2Idx3Bs0 ss => .sib .m2 3#3 0#3 false ss
  | .sibMod2Idx3Bs1 ss => .sib .m2 3#3 1#3 false ss
  | .sibMod2Idx3Bs2 ss => .sib .m2 3#3 2#3 false ss
  | .sibMod2Idx3Bs3 ss => .sib .m2 3#3 3#3 false ss
  | .sibMod2Idx3Bs4 ss => .sib .m2 3#3 4#3 false ss
  | .sibMod2Idx3Bs5B5 ss => .sib .m2 3#3 5#3 true ss
  | .sibMod2Idx3Bs5B13 ss => .sib .m2 3#3 5#3 false ss
  | .sibMod2Idx3Bs6 ss => .sib .m2 3#3 6#3 false ss
  | .sibMod2Idx3Bs7 ss => .sib .m2 3#3 7#3 false ss
  | .sibMod2Idx4Bs0 ss => .sib .m2 4#3 0#3 false ss
  | .sibMod2Idx4Bs1 ss => .sib .m2 4#3 1#3 false ss
  | .sibMod2Idx4Bs2 ss => .sib .m2 4#3 2#3 false ss
  | .sibMod2Idx4Bs3 ss => .sib .m2 4#3 3#3 false ss
  | .sibMod2Idx4Bs4 ss => .sib .m2 4#3 4#3 false ss
  | .sibMod2Idx4Bs5B5 ss => .sib .m2 4#3 5#3 true ss
  | .sibMod2Idx4Bs5B13 ss => .sib .m2 4#3 5#3 false ss
  | .sibMod2Idx4Bs6 ss => .sib .m2 4#3 6#3 false ss
  | .sibMod2Idx4Bs7 ss => .sib .m2 4#3 7#3 false ss
  | .sibMod2Idx5Bs0 ss => .sib .m2 5#3 0#3 false ss
  | .sibMod2Idx5Bs1 ss => .sib .m2 5#3 1#3 false ss
  | .sibMod2Idx5Bs2 ss => .sib .m2 5#3 2#3 false ss
  | .sibMod2Idx5Bs3 ss => .sib .m2 5#3 3#3 false ss
  | .sibMod2Idx5Bs4 ss => .sib .m2 5#3 4#3 false ss
  | .sibMod2Idx5Bs5B5 ss => .sib .m2 5#3 5#3 true ss
  | .sibMod2Idx5Bs5B13 ss => .sib .m2 5#3 5#3 false ss
  | .sibMod2Idx5Bs6 ss => .sib .m2 5#3 6#3 false ss
  | .sibMod2Idx5Bs7 ss => .sib .m2 5#3 7#3 false ss
  | .sibMod2Idx6Bs0 ss => .sib .m2 6#3 0#3 false ss
  | .sibMod2Idx6Bs1 ss => .sib .m2 6#3 1#3 false ss
  | .sibMod2Idx6Bs2 ss => .sib .m2 6#3 2#3 false ss
  | .sibMod2Idx6Bs3 ss => .sib .m2 6#3 3#3 false ss
  | .sibMod2Idx6Bs4 ss => .sib .m2 6#3 4#3 false ss
  | .sibMod2Idx6Bs5B5 ss => .sib .m2 6#3 5#3 true ss
  | .sibMod2Idx6Bs5B13 ss => .sib .m2 6#3 5#3 false ss
  | .sibMod2Idx6Bs6 ss => .sib .m2 6#3 6#3 false ss
  | .sibMod2Idx6Bs7 ss => .sib .m2 6#3 7#3 false ss
  | .sibMod2Idx7Bs0 ss => .sib .m2 7#3 0#3 false ss
  | .sibMod2Idx7Bs1 ss => .sib .m2 7#3 1#3 false ss
  | .sibMod2Idx7Bs2 ss => .sib .m2 7#3 2#3 false ss
  | .sibMod2Idx7Bs3 ss => .sib .m2 7#3 3#3 false ss
  | .sibMod2Idx7Bs4 ss => .sib .m2 7#3 4#3 false ss
  | .sibMod2Idx7Bs5B5 ss => .sib .m2 7#3 5#3 true ss
  | .sibMod2Idx7Bs5B13 ss => .sib .m2 7#3 5#3 false ss
  | .sibMod2Idx7Bs6 ss => .sib .m2 7#3 6#3 false ss
  | .sibMod2Idx7Bs7 ss => .sib .m2 7#3 7#3 false ss

end Sys2Proof
end

