-- ==== Sys2Proof/WellFormed.lean ====
section
/-! DEFINITION. Which terms of Instr stand for a byte form of the stream under given parameters: a row that the decoder
can never select, because an earlier test takes its bytes, is refused here. -/

namespace Sys2Proof

/-- Some listed byte sets this flag: the entry is present and not shadowed by an earlier one with the same byte
(40_prefix_scanner.md R141, R153). -/
def Params.pfxEntryOk (p : Params) (f : PfxFlag) : Bool :=
  (p.byteOfFlag f).isSome

/-- Well-formed instructions. One-byte opcodes: `o1 != ESC`, and the two OPCODE1 bytes have rows of their own
(30_encoding.md R106, R112). Two-byte opcodes: `o2` is no selector. Table B is reached only when SEL_B differs from
SEL_A (42_opcode_resolver.md R170). -/
def Instr.wellFormed (p : Params) (i : Instr) : Bool :=
  match i.row with
  | .pfx f => p.pfxEntryOk f
  | .oneByte o1 => o1 != p.esc && o1 != 0xC3#8 && o1 != 0x89#8
  | .cell o1 => o1 != p.esc
  | .twoByte o2 => o2 != p.selA && o2 != p.selB
  | .threeByteB _ => p.selA != p.selB
  | .rexByte _ _ _ _ | .threeByteA _ | .reg _ _ _ | .direct _ _ | .follows _ | .mem _ _ _
  | .sib _ _ _ _ _ => true

end Sys2Proof
end

