-- ==== Sys2Proof/Decode.lean ====
section
/-! DEFINITION. Decoding: which row of spec/opcode_table.json the bytes at hand are, given the stage of the call and the
conditions a row's `when` names; then the encoder, from the same layouts (30_encoding.md). -/

namespace Sys2Proof

/-! ## Byte layouts -/

/-- MODRM: `mod` 7:6, `reg` 5:3, `rm` 2:0 (30_encoding.md R107). -/
structure ModRM where
  mod : BitVec 2
  reg : BitVec 3
  rm  : BitVec 3
deriving DecidableEq, Repr

/-- SIB: `ss` 7:6, `idx` 5:3, `bs` 2:0 (30_encoding.md R108). -/
structure Sib where
  ss  : BitVec 2
  idx : BitVec 3
  bs  : BitVec 3
deriving DecidableEq, Repr

/-- Bits 7:6 of a byte. -/
def bits76 (v : Byte) : BitVec 2 := v.extractLsb' 6 2

/-- Bits 5:3 of a byte. -/
def bits53 (v : Byte) : BitVec 3 := v.extractLsb' 3 3

/-- Bits 2:0 of a byte. -/
def bits20 (v : Byte) : BitVec 3 := v.extractLsb' 0 3

/-- A byte from its three fields, the widest shift first. -/
def byteOfFields (hi : BitVec 2) (mid lo : BitVec 3) : Byte := (hi ++ mid) ++ lo

def ModRM.ofByte (v : Byte) : ModRM := ⟨bits76 v, bits53 v, bits20 v⟩

def ModRM.toByte (m : ModRM) : Byte := byteOfFields m.mod m.reg m.rm

def Sib.ofByte (v : Byte) : Sib := ⟨bits76 v, bits53 v, bits20 v⟩

def Sib.toByte (x : Sib) : Byte := byteOfFields x.ss x.idx x.bs

/-- The memory form a `mod` field names; none for `mod == 3` (30_encoding.md R107). -/
def MemMod.ofField (mod : BitVec 2) : Option MemMod :=
  match mod.toNat with
  | 0 => some .m0
  | 1 => some .m1
  | 2 => some .m2
  | _ => none

/-- The `mod` field of a memory form. -/
def MemMod.field : MemMod → BitVec 2
  | .m0 => 0#2
  | .m1 => 1#2
  | .m2 => 2#2

/-- A REX byte: 0100 w r x b (30_encoding.md R105). -/
def rexByteOf (w r x b : Bool) : Byte :=
  (4#4 ++ BitVec.ofBool w) ++ ((BitVec.ofBool r ++ BitVec.ofBool x) ++ BitVec.ofBool b)

/-! ## The context a row's `when` speaks of -/

/-- What the call does next: `idle` no call in progress; `scan` PFXSCAN, then REXDEC, then the opcode; `opcode` the
opcode (PFXSCAN and REXDEC are done); `modrm` the ModRM byte; `rm` the rm operand of the ModRM byte just read; `sib` the
SIB form just read; `fixed` FIXRES and the return (46_orchestrator.md R260). -/
inductive Stage where
  | idle | scan | opcode | modrm | rm | sib | fixed
deriving DecidableEq, Repr

/-- The stage and the conditions outside the bytes: REX.x, REX.b, and whether DESC.m is present (30_encoding.md R120). -/
structure Ctx where
  stage   : Stage
  rexX    : Bool
  rexB    : Bool
  memOnly : Bool
deriving DecidableEq, Repr

/-- Why no row is read: bytes are missing (the cursor primitive that asks for them is Truncated), or the stage reads no
row of the table. -/
inductive Reject where
  | truncated | noForm
deriving DecidableEq, Repr

/-- The SIB base-5 test (44_sib.md R225; BASE5_COMPARE, 92 D7): on the extended value, or on the raw field. -/
def base5Test (p : Params) (bs : BitVec 3) (rexB : Bool) : Bool :=
  match p.base5 with
  | .extended => bs == 5#3 && !rexB
  | .raw => bs == 5#3

/-! ## Row selection -/

/-- The PREFIX row of a flag of PFX (30_encoding.md R104). -/
def pfxInstr : PfxFlag → Instr
  | .lock => .pfxLock
  | .cs => .pfxCs
  | .ss => .pfxSs
  | .ds => .pfxDs
  | .es => .pfxEs
  | .fs => .pfxFs
  | .gs => .pfxGs
  | .repne => .pfxRepne
  | .rep => .pfxRep
  | .hintNotTaken => .pfxHintNotTaken
  | .hintTaken => .pfxHintTaken
  | .opsize => .pfxOpsize
  | .addrsize => .pfxAddrsize

/-- The REX row of a byte: w, r, x, b are bits 3, 2, 1, 0 (41_rex_decoder.md R160). -/
def rexInstr (v : Byte) : Instr :=
  .rex (v.getLsbD 3) (v.getLsbD 2) (v.getLsbD 1) (v.getLsbD 0)

/-- The one-byte row of `o1`; the two cells the source constrains have rows of their own (30_encoding.md R112). -/
def oneByteInstr (o1 : Byte) : Instr :=
  if o1 = 0xC3#8 then .t1C3
  else if o1 = 0x89#8 then .t189
  else .opcOneByte o1

/-- The "SIB follows" row of a `mod` (30_encoding.md R120). -/
def followsInstr (k : MemMod) : Instr :=
  match k with
  | .m0 => .modrmSibFollowsMod0
  | .m1 => .modrmSibFollowsMod1
  | .m2 => .modrmSibFollowsMod2

/-- The no-SIB memory row of (`mod`, REX.x, raw `rm`) (30_encoding.md R107, R120). Raw `rm` 4 never comes here. -/
def memInstr (k : MemMod) (rexX : Bool) (rm : BitVec 3) : Instr :=
  match k, rexX with
  | .m0, true =>
    match rm.toNat with
    | 0 => .modrmMemMod0Rm0Rexx
    | 1 => .modrmMemMod0Rm1Rexx
    | 2 => .modrmMemMod0Rm2Rexx
    | 3 => .modrmMemMod0Rm3Rexx
    | 5 => .modrmMemMod0Rm5Rexx
    | 6 => .modrmMemMod0Rm6Rexx
    | _ => .modrmMemMod0Rm7Rexx
  | .m0, false =>
    match rm.toNat with
    | 0 => .modrmMemMod0Rm0
    | 1 => .modrmMemMod0Rm1
    | 2 => .modrmMemMod0Rm2
    | 3 => .modrmMemMod0Rm3
    | 5 => .modrmMemMod0Rm5
    | 6 => .modrmMemMod0Rm6
    | _ => .modrmMemMod0Rm7
  | .m1, true =>
    match rm.toNat with
    | 0 => .modrmMemMod1Rm0Rexx
    | 1 => .modrmMemMod1Rm1Rexx
    | 2 => .modrmMemMod1Rm2Rexx
    | 3 => .modrmMemMod1Rm3Rexx
    | 5 => .modrmMemMod1Rm5Rexx
    | 6 => .modrmMemMod1Rm6Rexx
    | _ => .modrmMemMod1Rm7Rexx
  | .m1, false =>
    match rm.toNat with
    | 0 => .modrmMemMod1Rm0
    | 1 => .modrmMemMod1Rm1
    | 2 => .modrmMemMod1Rm2
    | 3 => .modrmMemMod1Rm3
    | 5 => .modrmMemMod1Rm5
    | 6 => .modrmMemMod1Rm6
    | _ => .modrmMemMod1Rm7
  | .m2, true =>
    match rm.toNat with
    | 0 => .modrmMemMod2Rm0Rexx
    | 1 => .modrmMemMod2Rm1Rexx
    | 2 => .modrmMemMod2Rm2Rexx
    | 3 => .modrmMemMod2Rm3Rexx
    | 5 => .modrmMemMod2Rm5Rexx
    | 6 => .modrmMemMod2Rm6Rexx
    | _ => .modrmMemMod2Rm7Rexx
  | .m2, false =>
    match rm.toNat with
    | 0 => .modrmMemMod2Rm0
    | 1 => .modrmMemMod2Rm1
    | 2 => .modrmMemMod2Rm2
    | 3 => .modrmMemMod2Rm3
    | 5 => .modrmMemMod2Rm5
    | 6 => .modrmMemMod2Rm6
    | _ => .modrmMemMod2Rm7

/-- The MODRM_SIB rows of `mod` 0 and raw `idx` 0. -/
def sibInstrM0I0 (bs : BitVec 3) (base5 : Bool) (ss : BitVec 2) : Instr :=
  match bs.toNat with
  | 0 => .sibMod0Idx0Bs0 ss
  | 1 => .sibMod0Idx0Bs1 ss
  | 2 => .sibMod0Idx0Bs2 ss
  | 3 => .sibMod0Idx0Bs3 ss
  | 4 => .sibMod0Idx0Bs4 ss
  | 5 => if base5 then .sibMod0Idx0Bs5B5 ss else .sibMod0Idx0Bs5B13 ss
  | 6 => .sibMod0Idx0Bs6 ss
  | _ => .sibMod0Idx0Bs7 ss

/-- The MODRM_SIB rows of `mod` 0 and raw `idx` 1. -/
def sibInstrM0I1 (bs : BitVec 3) (base5 : Bool) (ss : BitVec 2) : Instr :=
  match bs.toNat with
  | 0 => .sibMod0Idx1Bs0 ss
  | 1 => .sibMod0Idx1Bs1 ss
  | 2 => .sibMod0Idx1Bs2 ss
  | 3 => .sibMod0Idx1Bs3 ss
  | 4 => .sibMod0Idx1Bs4 ss
  | 5 => if base5 then .sibMod0Idx1Bs5B5 ss else .sibMod0Idx1Bs5B13 ss
  | 6 => .sibMod0Idx1Bs6 ss
  | _ => .sibMod0Idx1Bs7 ss

/-- The MODRM_SIB rows of `mod` 0 and raw `idx` 2. -/
def sibInstrM0I2 (bs : BitVec 3) (base5 : Bool) (ss : BitVec 2) : Instr :=
  match bs.toNat with
  | 0 => .sibMod0Idx2Bs0 ss
  | 1 => .sibMod0Idx2Bs1 ss
  | 2 => .sibMod0Idx2Bs2 ss
  | 3 => .sibMod0Idx2Bs3 ss
  | 4 => .sibMod0Idx2Bs4 ss
  | 5 => if base5 then .sibMod0Idx2Bs5B5 ss else .sibMod0Idx2Bs5B13 ss
  | 6 => .sibMod0Idx2Bs6 ss
  | _ => .sibMod0Idx2Bs7 ss

/-- The MODRM_SIB rows of `mod` 0 and raw `idx` 3. -/
def sibInstrM0I3 (bs : BitVec 3) (base5 : Bool) (ss : BitVec 2) : Instr :=
  match bs.toNat with
  | 0 => .sibMod0Idx3Bs0 ss
  | 1 => .sibMod0Idx3Bs1 ss
  | 2 => .sibMod0Idx3Bs2 ss
  | 3 => .sibMod0Idx3Bs3 ss
  | 4 => .sibMod0Idx3Bs4 ss
  | 5 => if base5 then .sibMod0Idx3Bs5B5 ss else .sibMod0Idx3Bs5B13 ss
  | 6 => .sibMod0Idx3Bs6 ss
  | _ => .sibMod0Idx3Bs7 ss

/-- The MODRM_SIB rows of `mod` 0 and raw `idx` 4. -/
def sibInstrM0I4 (bs : BitVec 3) (base5 : Bool) (ss : BitVec 2) : Instr :=
  match bs.toNat with
  | 0 => .sibMod0Idx4Bs0 ss
  | 1 => .sibMod0Idx4Bs1 ss
  | 2 => .sibMod0Idx4Bs2 ss
  | 3 => .sibMod0Idx4Bs3 ss
  | 4 => .sibMod0Idx4Bs4 ss
  | 5 => if base5 then .sibMod0Idx4Bs5B5 ss else .sibMod0Idx4Bs5B13 ss
  | 6 => .sibMod0Idx4Bs6 ss
  | _ => .sibMod0Idx4Bs7 ss

/-- The MODRM_SIB rows of `mod` 0 and raw `idx` 5. -/
def sibInstrM0I5 (bs : BitVec 3) (base5 : Bool) (ss : BitVec 2) : Instr :=
  match bs.toNat with
  | 0 => .sibMod0Idx5Bs0 ss
  | 1 => .sibMod0Idx5Bs1 ss
  | 2 => .sibMod0Idx5Bs2 ss
  | 3 => .sibMod0Idx5Bs3 ss
  | 4 => .sibMod0Idx5Bs4 ss
  | 5 => if base5 then .sibMod0Idx5Bs5B5 ss else .sibMod0Idx5Bs5B13 ss
  | 6 => .sibMod0Idx5Bs6 ss
  | _ => .sibMod0Idx5Bs7 ss

/-- The MODRM_SIB rows of `mod` 0 and raw `idx` 6. -/
def sibInstrM0I6 (bs : BitVec 3) (base5 : Bool) (ss : BitVec 2) : Instr :=
  match bs.toNat with
  | 0 => .sibMod0Idx6Bs0 ss
  | 1 => .sibMod0Idx6Bs1 ss
  | 2 => .sibMod0Idx6Bs2 ss
  | 3 => .sibMod0Idx6Bs3 ss
  | 4 => .sibMod0Idx6Bs4 ss
  | 5 => if base5 then .sibMod0Idx6Bs5B5 ss else .sibMod0Idx6Bs5B13 ss
  | 6 => .sibMod0Idx6Bs6 ss
  | _ => .sibMod0Idx6Bs7 ss

/-- The MODRM_SIB rows of `mod` 0 and raw `idx` 7. -/
def sibInstrM0I7 (bs : BitVec 3) (base5 : Bool) (ss : BitVec 2) : Instr :=
  match bs.toNat with
  | 0 => .sibMod0Idx7Bs0 ss
  | 1 => .sibMod0Idx7Bs1 ss
  | 2 => .sibMod0Idx7Bs2 ss
  | 3 => .sibMod0Idx7Bs3 ss
  | 4 => .sibMod0Idx7Bs4 ss
  | 5 => if base5 then .sibMod0Idx7Bs5B5 ss else .sibMod0Idx7Bs5B13 ss
  | 6 => .sibMod0Idx7Bs6 ss
  | _ => .sibMod0Idx7Bs7 ss

/-- The MODRM_SIB rows of `mod` 1 and raw `idx` 0. -/
def sibInstrM1I0 (bs : BitVec 3) (base5 : Bool) (ss : BitVec 2) : Instr :=
  match bs.toNat with
  | 0 => .sibMod1Idx0Bs0 ss
  | 1 => .sibMod1Idx0Bs1 ss
  | 2 => .sibMod1Idx0Bs2 ss
  | 3 => .sibMod1Idx0Bs3 ss
  | 4 => .sibMod1Idx0Bs4 ss
  | 5 => if base5 then .sibMod1Idx0Bs5B5 ss else .sibMod1Idx0Bs5B13 ss
  | 6 => .sibMod1Idx0Bs6 ss
  | _ => .sibMod1Idx0Bs7 ss

/-- The MODRM_SIB rows of `mod` 1 and raw `idx` 1. -/
def sibInstrM1I1 (bs : BitVec 3) (base5 : Bool) (ss : BitVec 2) : Instr :=
  match bs.toNat with
  | 0 => .sibMod1Idx1Bs0 ss
  | 1 => .sibMod1Idx1Bs1 ss
  | 2 => .sibMod1Idx1Bs2 ss
  | 3 => .sibMod1Idx1Bs3 ss
  | 4 => .sibMod1Idx1Bs4 ss
  | 5 => if base5 then .sibMod1Idx1Bs5B5 ss else .sibMod1Idx1Bs5B13 ss
  | 6 => .sibMod1Idx1Bs6 ss
  | _ => .sibMod1Idx1Bs7 ss

/-- The MODRM_SIB rows of `mod` 1 and raw `idx` 2. -/
def sibInstrM1I2 (bs : BitVec 3) (base5 : Bool) (ss : BitVec 2) : Instr :=
  match bs.toNat with
  | 0 => .sibMod1Idx2Bs0 ss
  | 1 => .sibMod1Idx2Bs1 ss
  | 2 => .sibMod1Idx2Bs2 ss
  | 3 => .sibMod1Idx2Bs3 ss
  | 4 => .sibMod1Idx2Bs4 ss
  | 5 => if base5 then .sibMod1Idx2Bs5B5 ss else .sibMod1Idx2Bs5B13 ss
  | 6 => .sibMod1Idx2Bs6 ss
  | _ => .sibMod1Idx2Bs7 ss

/-- The MODRM_SIB rows of `mod` 1 and raw `idx` 3. -/
def sibInstrM1I3 (bs : BitVec 3) (base5 : Bool) (ss : BitVec 2) : Instr :=
  match bs.toNat with
  | 0 => .sibMod1Idx3Bs0 ss
  | 1 => .sibMod1Idx3Bs1 ss
  | 2 => .sibMod1Idx3Bs2 ss
  | 3 => .sibMod1Idx3Bs3 ss
  | 4 => .sibMod1Idx3Bs4 ss
  | 5 => if base5 then .sibMod1Idx3Bs5B5 ss else .sibMod1Idx3Bs5B13 ss
  | 6 => .sibMod1Idx3Bs6 ss
  | _ => .sibMod1Idx3Bs7 ss

/-- The MODRM_SIB rows of `mod` 1 and raw `idx` 4. -/
def sibInstrM1I4 (bs : BitVec 3) (base5 : Bool) (ss : BitVec 2) : Instr :=
  match bs.toNat with
  | 0 => .sibMod1Idx4Bs0 ss
  | 1 => .sibMod1Idx4Bs1 ss
  | 2 => .sibMod1Idx4Bs2 ss
  | 3 => .sibMod1Idx4Bs3 ss
  | 4 => .sibMod1Idx4Bs4 ss
  | 5 => if base5 then .sibMod1Idx4Bs5B5 ss else .sibMod1Idx4Bs5B13 ss
  | 6 => .sibMod1Idx4Bs6 ss
  | _ => .sibMod1Idx4Bs7 ss

/-- The MODRM_SIB rows of `mod` 1 and raw `idx` 5. -/
def sibInstrM1I5 (bs : BitVec 3) (base5 : Bool) (ss : BitVec 2) : Instr :=
  match bs.toNat with
  | 0 => .sibMod1Idx5Bs0 ss
  | 1 => .sibMod1Idx5Bs1 ss
  | 2 => .sibMod1Idx5Bs2 ss
  | 3 => .sibMod1Idx5Bs3 ss
  | 4 => .sibMod1Idx5Bs4 ss
  | 5 => if base5 then .sibMod1Idx5Bs5B5 ss else .sibMod1Idx5Bs5B13 ss
  | 6 => .sibMod1Idx5Bs6 ss
  | _ => .sibMod1Idx5Bs7 ss

/-- The MODRM_SIB rows of `mod` 1 and raw `idx` 6. -/
def sibInstrM1I6 (bs : BitVec 3) (base5 : Bool) (ss : BitVec 2) : Instr :=
  match bs.toNat with
  | 0 => .sibMod1Idx6Bs0 ss
  | 1 => .sibMod1Idx6Bs1 ss
  | 2 => .sibMod1Idx6Bs2 ss
  | 3 => .sibMod1Idx6Bs3 ss
  | 4 => .sibMod1Idx6Bs4 ss
  | 5 => if base5 then .sibMod1Idx6Bs5B5 ss else .sibMod1Idx6Bs5B13 ss
  | 6 => .sibMod1Idx6Bs6 ss
  | _ => .sibMod1Idx6Bs7 ss

/-- The MODRM_SIB rows of `mod` 1 and raw `idx` 7. -/
def sibInstrM1I7 (bs : BitVec 3) (base5 : Bool) (ss : BitVec 2) : Instr :=
  match bs.toNat with
  | 0 => .sibMod1Idx7Bs0 ss
  | 1 => .sibMod1Idx7Bs1 ss
  | 2 => .sibMod1Idx7Bs2 ss
  | 3 => .sibMod1Idx7Bs3 ss
  | 4 => .sibMod1Idx7Bs4 ss
  | 5 => if base5 then .sibMod1Idx7Bs5B5 ss else .sibMod1Idx7Bs5B13 ss
  | 6 => .sibMod1Idx7Bs6 ss
  | _ => .sibMod1Idx7Bs7 ss

/-- The MODRM_SIB rows of `mod` 2 and raw `idx` 0. -/
def sibInstrM2I0 (bs : BitVec 3) (base5 : Bool) (ss : BitVec 2) : Instr :=
  match bs.toNat with
  | 0 => .sibMod2Idx0Bs0 ss
  | 1 => .sibMod2Idx0Bs1 ss
  | 2 => .sibMod2Idx0Bs2 ss
  | 3 => .sibMod2Idx0Bs3 ss
  | 4 => .sibMod2Idx0Bs4 ss
  | 5 => if base5 then .sibMod2Idx0Bs5B5 ss else .sibMod2Idx0Bs5B13 ss
  | 6 => .sibMod2Idx0Bs6 ss
  | _ => .sibMod2Idx0Bs7 ss

/-- The MODRM_SIB rows of `mod` 2 and raw `idx` 1. -/
def sibInstrM2I1 (bs : BitVec 3) (base5 : Bool) (ss : BitVec 2) : Instr :=
  match bs.toNat with
  | 0 => .sibMod2Idx1Bs0 ss
  | 1 => .sibMod2Idx1Bs1 ss
  | 2 => .sibMod2Idx1Bs2 ss
  | 3 => .sibMod2Idx1Bs3 ss
  | 4 => .sibMod2Idx1Bs4 ss
  | 5 => if base5 then .sibMod2Idx1Bs5B5 ss else .sibMod2Idx1Bs5B13 ss
  | 6 => .sibMod2Idx1Bs6 ss
  | _ => .sibMod2Idx1Bs7 ss

/-- The MODRM_SIB rows of `mod` 2 and raw `idx` 2. -/
def sibInstrM2I2 (bs : BitVec 3) (base5 : Bool) (ss : BitVec 2) : Instr :=
  match bs.toNat with
  | 0 => .sibMod2Idx2Bs0 ss
  | 1 => .sibMod2Idx2Bs1 ss
  | 2 => .sibMod2Idx2Bs2 ss
  | 3 => .sibMod2Idx2Bs3 ss
  | 4 => .sibMod2Idx2Bs4 ss
  | 5 => if base5 then .sibMod2Idx2Bs5B5 ss else .sibMod2Idx2Bs5B13 ss
  | 6 => .sibMod2Idx2Bs6 ss
  | _ => .sibMod2Idx2Bs7 ss

/-- The MODRM_SIB rows of `mod` 2 and raw `idx` 3. -/
def sibInstrM2I3 (bs : BitVec 3) (base5 : Bool) (ss : BitVec 2) : Instr :=
  match bs.toNat with
  | 0 => .sibMod2Idx3Bs0 ss
  | 1 => .sibMod2Idx3Bs1 ss
  | 2 => .sibMod2Idx3Bs2 ss
  | 3 => .sibMod2Idx3Bs3 ss
  | 4 => .sibMod2Idx3Bs4 ss
  | 5 => if base5 then .sibMod2Idx3Bs5B5 ss else .sibMod2Idx3Bs5B13 ss
  | 6 => .sibMod2Idx3Bs6 ss
  | _ => .sibMod2Idx3Bs7 ss

/-- The MODRM_SIB rows of `mod` 2 and raw `idx` 4. -/
def sibInstrM2I4 (bs : BitVec 3) (base5 : Bool) (ss : BitVec 2) : Instr :=
  match bs.toNat with
  | 0 => .sibMod2Idx4Bs0 ss
  | 1 => .sibMod2Idx4Bs1 ss
  | 2 => .sibMod2Idx4Bs2 ss
  | 3 => .sibMod2Idx4Bs3 ss
  | 4 => .sibMod2Idx4Bs4 ss
  | 5 => if base5 then .sibMod2Idx4Bs5B5 ss else .sibMod2Idx4Bs5B13 ss
  | 6 => .sibMod2Idx4Bs6 ss
  | _ => .sibMod2Idx4Bs7 ss

/-- The MODRM_SIB rows of `mod` 2 and raw `idx` 5. -/
def sibInstrM2I5 (bs : BitVec 3) (base5 : Bool) (ss : BitVec 2) : Instr :=
  match bs.toNat with
  | 0 => .sibMod2Idx5Bs0 ss
  | 1 => .sibMod2Idx5Bs1 ss
  | 2 => .sibMod2Idx5Bs2 ss
  | 3 => .sibMod2Idx5Bs3 ss
  | 4 => .sibMod2Idx5Bs4 ss
  | 5 => if base5 then .sibMod2Idx5Bs5B5 ss else .sibMod2Idx5Bs5B13 ss
  | 6 => .sibMod2Idx5Bs6 ss
  | _ => .sibMod2Idx5Bs7 ss

/-- The MODRM_SIB rows of `mod` 2 and raw `idx` 6. -/
def sibInstrM2I6 (bs : BitVec 3) (base5 : Bool) (ss : BitVec 2) : Instr :=
  match bs.toNat with
  | 0 => .sibMod2Idx6Bs0 ss
  | 1 => .sibMod2Idx6Bs1 ss
  | 2 => .sibMod2Idx6Bs2 ss
  | 3 => .sibMod2Idx6Bs3 ss
  | 4 => .sibMod2Idx6Bs4 ss
  | 5 => if base5 then .sibMod2Idx6Bs5B5 ss else .sibMod2Idx6Bs5B13 ss
  | 6 => .sibMod2Idx6Bs6 ss
  | _ => .sibMod2Idx6Bs7 ss

/-- The MODRM_SIB rows of `mod` 2 and raw `idx` 7. -/
def sibInstrM2I7 (bs : BitVec 3) (base5 : Bool) (ss : BitVec 2) : Instr :=
  match bs.toNat with
  | 0 => .sibMod2Idx7Bs0 ss
  | 1 => .sibMod2Idx7Bs1 ss
  | 2 => .sibMod2Idx7Bs2 ss
  | 3 => .sibMod2Idx7Bs3 ss
  | 4 => .sibMod2Idx7Bs4 ss
  | 5 => if base5 then .sibMod2Idx7Bs5B5 ss else .sibMod2Idx7Bs5B13 ss
  | 6 => .sibMod2Idx7Bs6 ss
  | _ => .sibMod2Idx7Bs7 ss

/-- The MODRM_SIB row of (`mod`, raw `idx`, raw `bs`), and for raw `bs` 5 of the base-5 test (30_encoding.md R120). -/
def sibInstr (k : MemMod) (idx bs : BitVec 3) (base5 : Bool) (ss : BitVec 2) : Instr :=
  match k with
  | .m0 =>
    match idx.toNat with
    | 0 => sibInstrM0I0 bs base5 ss
    | 1 => sibInstrM0I1 bs base5 ss
    | 2 => sibInstrM0I2 bs base5 ss
    | 3 => sibInstrM0I3 bs base5 ss
    | 4 => sibInstrM0I4 bs base5 ss
    | 5 => sibInstrM0I5 bs base5 ss
    | 6 => sibInstrM0I6 bs base5 ss
    | _ => sibInstrM0I7 bs base5 ss
  | .m1 =>
    match idx.toNat with
    | 0 => sibInstrM1I0 bs base5 ss
    | 1 => sibInstrM1I1 bs base5 ss
    | 2 => sibInstrM1I2 bs base5 ss
    | 3 => sibInstrM1I3 bs base5 ss
    | 4 => sibInstrM1I4 bs base5 ss
    | 5 => sibInstrM1I5 bs base5 ss
    | 6 => sibInstrM1I6 bs base5 ss
    | _ => sibInstrM1I7 bs base5 ss
  | .m2 =>
    match idx.toNat with
    | 0 => sibInstrM2I0 bs base5 ss
    | 1 => sibInstrM2I1 bs base5 ss
    | 2 => sibInstrM2I2 bs base5 ss
    | 3 => sibInstrM2I3 bs base5 ss
    | 4 => sibInstrM2I4 bs base5 ss
    | 5 => sibInstrM2I5 bs base5 ss
    | 6 => sibInstrM2I6 bs base5 ss
    | _ => sibInstrM2I7 bs base5 ss

/-! ## decode -/

/-- The opcode shapes (42_opcode_resolver.md R170): `o1`, and after ESC `o2`, and after a selector `o3`. -/
def decodeOpcode (p : Params) (o1 : Byte) (rest : List Byte) : Except Reject Instr :=
  if o1 ≠ p.esc then .ok (oneByteInstr o1)
  else
    match rest with
    | [] => .error .truncated
    | o2 :: rest2 =>
      if o2 = p.selA then
        match rest2 with
        | [] => .error .truncated
        | o3 :: _ => .ok (.escThreeByteA o3)
      else if o2 = p.selB then
        match rest2 with
        | [] => .error .truncated
        | o3 :: _ => .ok (.escThreeByteB o3)
      else .ok (.escTwoByte o2)

/-- The row of the rm operand, tested in the source's order (43_addressing_mode.md R194). -/
def decodeRm (c : Ctx) (v : ModRM) : Instr :=
  match MemMod.ofField v.mod with
  | some k => if v.rm = 4#3 then followsInstr k else memInstr k c.rexX v.rm
  | none => if c.memOnly then .modrmRegdirectInvalid v.rm else .modrmRegdirect v.rm

/-- The row of a ModRM byte and its SIB byte; `noForm` when that ModRM byte has no SIB byte. -/
def decodeSib (p : Params) (c : Ctx) (v : ModRM) (x : Sib) : Except Reject Instr :=
  match MemMod.ofField v.mod with
  | some k =>
    if v.rm = 4#3 then .ok (sibInstr k x.idx x.bs (base5Test p x.bs c.rexB) x.ss) else .error .noForm
  | none => .error .noForm

/-- The row the bytes are at this stage. At `scan` the first byte is a prefix if PREFIX_LIST has it, else REX if its high
nibble is 0100, else the opcode begins (46_orchestrator.md R260, 41_rex_decoder.md R162); after REX the opcode
follows whatever it is (R163). -/
def decode (p : Params) (c : Ctx) (bytes : List Byte) : Except Reject Instr :=
  match c.stage, bytes with
  | .scan, [] => .error .truncated
  | .scan, v :: rest =>
    match p.prefixOf v with
    | some f => .ok (pfxInstr f)
    | none => if isRexByte v then .ok (rexInstr v) else decodeOpcode p v rest
  | .opcode, [] => .error .truncated
  | .opcode, v :: rest => decodeOpcode p v rest
  | .modrm, [] => .error .truncated
  | .modrm, v :: _ => .ok (.modrmReg (bits76 v) (bits53 v) (bits20 v))
  | .rm, [] => .error .noForm
  | .rm, v :: _ => .ok (decodeRm c (ModRM.ofByte v))
  | .sib, [] => .error .noForm
  | .sib, [_] => .error .noForm
  | .sib, v :: x :: _ => decodeSib p c (ModRM.ofByte v) (Sib.ofByte x)
  | .idle, _ => .error .noForm
  | .fixed, _ => .error .noForm

/-! ## encode -/

/-- The bytes of a row (30_encoding.md R104 to R108), `reg` standing in the ModRM bits a row leaves free. -/
def encodeRow (p : Params) (reg : BitVec 3) : Row → List Byte
  | .pfx f => (p.byteOfFlag f).toList
  | .rexByte w r x b => [rexByteOf w r x b]
  | .oneByte o1 => [o1]
  | .cell o1 => [o1]
  | .twoByte o2 => [p.esc, o2]
  | .threeByteA o3 => [p.esc, p.selA, o3]
  | .threeByteB o3 => [p.esc, p.selB, o3]
  | .reg mod ownReg rm => [byteOfFields mod ownReg rm]
  | .direct _ rm => [byteOfFields 3#2 reg rm]
  | .follows k => [byteOfFields k.field reg 4#3]
  | .mem k rm _ => [byteOfFields k.field reg rm]
  | .sib k idx bs _ ss => [byteOfFields k.field reg 4#3, byteOfFields ss idx bs]

/-- The bytes of an instruction in stream order, with the given ModRM `reg` bits where the row leaves them free. -/
def encodeWith (reg : BitVec 3) (p : Params) (i : Instr) : List Byte :=
  encodeRow p reg i.row

/-- The bytes of an instruction in stream order, the bits its row leaves free all 0. -/
def encode (p : Params) (i : Instr) : List Byte :=
  encodeWith 0#3 p i

/-- The stage at which a row is read, and its `when` (30_encoding.md R120). An opcode is read at `scan` too, when its
first byte is neither a prefix nor a REX byte; a REX byte only when PREFIX_LIST does not have it (93 U11). -/
def Ctx.admits (p : Params) (c : Ctx) (i : Instr) : Bool :=
  match i.row with
  | .pfx _ => c.stage == .scan
  | .rexByte w r x b => c.stage == .scan && p.prefixOf (rexByteOf w r x b) == none
  | .oneByte o1 | .cell o1 =>
    c.stage == .opcode || (c.stage == .scan && p.prefixOf o1 == none && !isRexByte o1)
  | .twoByte _ | .threeByteA _ | .threeByteB _ =>
    c.stage == .opcode || (c.stage == .scan && p.prefixOf p.esc == none && !isRexByte p.esc)
  | .reg _ _ _ => c.stage == .modrm
  | .direct memOnly _ => c.stage == .rm && c.memOnly == memOnly
  | .follows _ => c.stage == .rm
  | .mem _ _ rexX => c.stage == .rm && c.rexX == rexX
  | .sib _ _ bs base5 _ => c.stage == .sib && base5Test p bs c.rexB == base5

/-! ## Words of the opcode table -/

/-- The bytes of a table word in stream order: R120 puts the first byte in the HIGH byte of a two-byte row. Log 8. -/
def tableBytes (nbits w : Nat) : List Byte :=
  let n := (nbits + 7) / 8
  (List.range n).map fun k => BitVec.ofNat 8 (w / 2 ^ (8 * (n - 1 - k)))

/-- Zero bytes after a table word, more than any form reads. -/
def zeroTail : List Byte := List.replicate 12 0#8

/-- Where in a call a table word is read. A word alone does not say its format (30_encoding.md R120): a prefix byte, a REX
byte, ESC, one of the two OPCODE1 cells, or 00 is read at `scan`; any other single byte is read as a ModRM byte, 41 to 47
too (the `mod` 1 rows with `reg` 0; REX keeps 40 and 48 to 4F); and a two-byte word that is ModRM with SIB as that. REX.x
and REX.b are 0 and DESC has no `m`. Log 8. -/
def tableCtx (nbits w : Nat) : Ctx :=
  let at_ (st : Stage) : Ctx := { stage := st, rexX := false, rexB := false, memOnly := false }
  match tableBytes nbits w with
  | [v] =>
    if (Params.default.prefixOf v).isSome || (isRexByte v && (v == 0x40#8 || bits53 v == 1#3))
        || v == Params.default.esc || v == 0xC3#8 || v == 0x89#8 || v == 0#8 then at_ .scan
    else at_ .rm
  | v :: _ :: _ =>
    if v ≠ Params.default.esc ∧ bits20 v = 4#3 ∧ bits76 v ≠ 3#2 then at_ .sib else at_ .scan
  | [] => at_ .scan

/-- The instruction the decoder reads from a word of spec/opcode_table.json, numbered as the table numbers it, with
zeros after it, under the default parameters. -/
def decodeTableWord (nbits w : Nat) : Option Instr :=
  match decode Params.default (tableCtx nbits w) (tableBytes nbits w ++ zeroTail) with
  | .ok i => some i
  | .error _ => none

end Sys2Proof
end

