-- ==== Sys2Proof/Machine/State.lean ====
section
/-! DEFINITION. The state of the block (10_state.md R20, R48), the stops of a step, and the state after reset. -/

namespace Sys2Proof.Machine

/-! ## Working registers of one call -/

/-- PFX, the PrefixSet: one named flag per logical prefix (10_state.md R34); the thirteen of the default list whatever
PREFIX_LIST is (DESIGN CHOICE, log 28). -/
structure PrefixSet where
  lock         : Bool
  cs           : Bool
  ss           : Bool
  ds           : Bool
  es           : Bool
  fs           : Bool
  gs           : Bool
  repne        : Bool
  rep          : Bool
  hintNotTaken : Bool
  hintTaken    : Bool
  opsize       : Bool
  addrsize     : Bool
deriving DecidableEq, Repr

/-- The four bits of a REX byte that is present (10_state.md R35). -/
structure RexFlags where
  w : Bool
  r : Bool
  x : Bool
  b : Bool
deriving DecidableEq, Repr

/-- OPC: the opcode bytes consumed, in the shapes of 30_encoding.md R106. -/
inductive OpcBytes where
  | one (o1 : Byte)
  | two (o1 o2 : Byte)
  | threeA (o1 o2 o3 : Byte)
  | threeB (o1 o2 o3 : Byte)
deriving DecidableEq, Repr

/-- The scale of an index term: 1, 2, 4 or 8 (10_state.md R42). -/
inductive Scale where
  | s1 | s2 | s4 | s8
deriving DecidableEq, Repr

/-- The index term of a memory expression (44_sib.md R222); the record keeps a scale of 1. -/
structure IndexTerm where
  scale : Scale
  reg   : Designator
deriving DecidableEq, Repr

/-- An element of the source's ordered list: R(reg), SR(scale, reg), D(displacement) (10_state.md R42). -/
inductive Part where
  | r (reg : Designator)
  | sr (scale : Scale) (reg : Designator)
  | d (disp : Int)
deriving DecidableEq, Repr

/-- MemoryExpr (10_state.md R42): the record is normative, `lst` is the source's list view. -/
structure MemoryExpr where
  base  : Option Designator
  index : Option IndexTerm
  disp  : Option Int
  lst   : List Part
deriving DecidableEq, Repr

/-- Operand (10_state.md R43). -/
inductive Operand where
  | reg (d : Designator)
  | mem (e : MemoryExpr)
  | lit (l : Literal)
deriving DecidableEq, Repr

/-- The Instruction record (10_state.md R44). -/
structure Instruction where
  tag      : Tag
  operands : List Operand
deriving DecidableEq, Repr

/-! ## Outcome of a call -/

/-- DecodeError, exactly three kinds (60_exceptions.md R280). -/
inductive DecodeError where
  | truncated | unknownOpcode | invalidEncoding
deriving DecidableEq, Repr

/-- `Result<Instruction, DecodeError>` (60_exceptions.md R280, R283: an error has no payload). -/
inductive CallResult where
  | ok (i : Instruction)
  | error (e : DecodeError)
deriving DecidableEq, Repr

/-- The side outputs (10_state.md R47). -/
structure Side where
  pfx : PrefixSet
  rex : Option RexFlags
deriving DecidableEq, Repr

/-- What the block shows at the end of a call: the `done` port and, when PFXSCAN and REXDEC were completed, the `side`
port (10_state.md R47). Log 14. -/
structure Output where
  result : CallResult
  side   : Option Side
deriving DecidableEq, Repr

/-! ## The cursor and the caller -/

/-- BUF: (address, byte) pairs, addresses strictly rising, no entry equal to the byte an unlisted address reads as. -/
structure Memory where
  cells : List Host.Cell
deriving DecidableEq, Repr

/-- What the caller does between calls (00_scope.md R19), and the reset input (70_reset_and_hazards.md R321):
`start` a call; `await` its end; `setPos` moves the cursor; `load` puts another buffer under the cursor, at a
position; `reset` resets the block. DESIGN CHOICE, log 6: R19 also lets the caller discard the instance, and the spec gives
no state for that; here it is no move, the caller gives no further move and the machine stays as it is. -/
inductive HostMove where
  | start
  | await
  | setPos (pos : Nat)
  | load (bytes : List Byte) (pos : Nat)
  | reset
deriving DecidableEq, Repr

/-! ## State -/

/-- Everything the spec gives the block (10_state.md R20), and the model's own `stage`, `host`, `drawn`. -/
structure State where
  cfg   : Params
  buf   : Memory
  len   : Nat
  pos   : Nat
  pos0  : Option Nat
  pfx   : PrefixSet
  rex   : Option RexFlags
  opc   : Option OpcBytes
  desc  : Option OpcodeDescriptor
  modrm : Option ModRM
  sib   : Option Sib
  disp  : Option Int
  slots : Option (List (Option Operand))
  stage : Stage
  out   : Option Output
  host  : List HostMove
  drawn : Nat
deriving DecidableEq, Repr

/-! ## Stops -/

/-- Faults of a step. The three errors of a decode are no faults: they are outcomes of a call (60_exceptions.md R284).
These two are raised by the caller's own moves only. -/
inductive Fault where
  /-- Raised by the host moves `setPos` and `load`: a position beyond LEN, against `0 <= POS <= LEN` (20_memory.md R63).
  Safe: no state the spec forbids is reached. -/
  | positionOutsideBuffer
  /-- Raised by the host move `load`: LEN does not fit, against `LEN < 2^POS_BITS` (92_eei_decisions.md D15). Safe. -/
  | bufferTooLong
deriving DecidableEq, Repr

/-- Refusals of a step: no meaning. -/
inductive Refusal where
  /-- Raised by an arm of exec that has no meaning yet. Safe. -/
  | notModelled (mnemonic : String)
  /-- Raised by the opcode rows, and by any later stage that finds no such descriptor: the resolved entry is not
  well-formed, so the call has neither a result nor an error (10_state.md R41; 92 D13; 93 U2). Safe. -/
  | illFormedDescriptor
  /-- Raised by step: the caller starts a call while one is in progress on this cursor (20_memory.md R82; 93 U6). Safe. -/
  | overlappingCalls
  /-- Raised by step: a stage that reads a ModRM or SIB register which holds no value; in no state a call reaches. Safe. -/
  | noForm
deriving DecidableEq, Repr

/-- The outcome of a meaning. -/
abbrev Result := Host.Outcome State Fault Refusal

/-! ## Reset -/

/-- PFX with every flag 0 (10_state.md R48). -/
def PrefixSet.empty : PrefixSet :=
  { lock := false, cs := false, ss := false, ds := false, es := false, fs := false, gs := false, repne := false,
    rep := false, hintNotTaken := false, hintTaken := false, opsize := false, addrsize := false }

/-- The state after reset: no call in progress, no working register holding a value, STATUS without a value
(10_state.md R48, 70_reset_and_hazards.md R320). The cursor and the tables are not the block's to reset (R321): an
empty buffer and the default parameters stand there. DESIGN CHOICE, logs 2 to 6. -/
def State.reset : State :=
  { cfg := Params.default
    buf := { cells := [] }
    len := 0
    pos := 0
    pos0 := none
    pfx := PrefixSet.empty
    rex := none
    opc := none
    desc := none
    modrm := none
    sib := none
    disp := none
    slots := none
    stage := .idle
    out := none
    host := []
    drawn := 0 }

end Sys2Proof.Machine
end

