-- ==== Sys2Proof/Machine/Buffer.lean ====
section
/-! DEFINITION. The byte buffer in canonical form: reading a byte, writing one (the caller's act only: the block writes
no memory, 20_memory.md R61), building a buffer from its bytes. -/

namespace Sys2Proof.Machine

/-- What an address of the buffer reads as that the cell list does not name. Every byte of BUF is the caller's, so this
is the list's convention, not a value of the hardware. Log 10. -/
def unlistedByte : Byte := 0#8

def readCells : List Host.Cell → Nat → Byte
  | [], _ => unlistedByte
  | c :: rest, a => if c.1 = a then c.2 else readCells rest a

/-- One byte of the buffer. -/
def Memory.read (m : Memory) (a : Nat) : Byte := readCells m.cells a

/-- A cell put into a rising list; a cell that reads as an unlisted address does is left out. -/
def putCell : List Host.Cell → Nat → Byte → List Host.Cell
  | [], a, v => if v = unlistedByte then [] else [(a, v)]
  | c :: rest, a, v =>
    if a < c.1 then (if v = unlistedByte then c :: rest else (a, v) :: c :: rest)
    else if a = c.1 then (if v = unlistedByte then rest else (a, v) :: rest)
    else c :: putCell rest a v

/-- One byte written by the caller. -/
def Memory.write (m : Memory) (a : Nat) (v : Byte) : Memory := { cells := putCell m.cells a v }

/-- Bytes written at consecutive addresses. -/
def Memory.writeBytes (m : Memory) (a : Nat) : List Byte → Memory
  | [] => m
  | v :: rest => (m.write a v).writeBytes (a + 1) rest

/-- The buffer that holds the given bytes from address 0. -/
def Memory.ofBytes (bytes : List Byte) : Memory := Memory.writeBytes { cells := [] } 0 bytes

/-- The cells rise strictly from address `lo` on, and none reads as an unlisted address does. -/
def cellsWf : Nat → List Host.Cell → Bool
  | _, [] => true
  | lo, c :: rest => lo ≤ c.1 && c.2 != unlistedByte && cellsWf (c.1 + 1) rest

/-- The canonical form. -/
def Memory.wf (m : Memory) : Bool := cellsWf 0 m.cells

/-- Every listed cell is a byte of a buffer of `len` bytes (20_memory.md R74). -/
def Memory.within (m : Memory) (len : Nat) : Bool := m.cells.all fun c => c.1 < len

end Sys2Proof.Machine
end

