-- ==== Sys2Proof/Machine/Descriptor.lean ====
section
/-! DEFINITION. Well-formed descriptors (10_state.md R41, W1 to W5), the ModRM roles of a descriptor, and well-formed
parameters (30_encoding.md R112, 70_reset_and_hazards.md R322). -/

namespace Sys2Proof

/-- `n <= NSLOT`; no limit when NSLOT is unbounded (92 D14). -/
def withinNslot (nslot : Option Nat) (n : Nat) : Bool :=
  match nslot with
  | none => true
  | some k => n ≤ k

/-- W1: the operand count fits, and the `index` fields are pairwise distinct and are exactly 0..n-1. -/
def OpcodeDescriptor.w1 (d : OpcodeDescriptor) (nslot : Option Nat) : Bool :=
  withinNslot nslot d.operands.length
    && d.operands.all (fun o => o.index < d.operands.length)
    && decide (d.operands.map OperandDescriptor.index).Nodup

/-- W2: without ModRM there is no role and every operand is FIXED. -/
def OpcodeDescriptor.w2 (d : OpcodeDescriptor) : Bool :=
  d.modrm || (d.r.isNone && d.m.isNone && d.rm.isNone && d.operands.all (fun o => o.kind == .fixed))

/-- The operand descriptor a role refers to. -/
def OpcodeDescriptor.deref (d : OpcodeDescriptor) (role : Option Nat) : Option OperandDescriptor :=
  role.bind fun k => d.operands[k]?

/-- The kinds of an `r` operand (W3). -/
def OperandKind.isRegister : OperandKind → Bool
  | .gpr | .mmx | .xmm => true
  | .fixed | .rm => false

/-- The kinds of an `m` or `rm` operand (W3). -/
def OperandKind.isRegisterOrRm : OperandKind → Bool
  | .gpr | .mmx | .xmm | .rm => true
  | .fixed => false

/-- `op`, the role that receives the rm field: `m` if present, else `rm` (43_addressing_mode.md R193). -/
def OpcodeDescriptor.opRole (d : OpcodeDescriptor) : Option Nat :=
  match d.m with
  | some k => some k
  | none => d.rm

/-- W3: with ModRM, `r` is present with a register kind, exactly one of `m` and `rm` is present, of a kind it may have,
and it is another element than `r`. -/
def OpcodeDescriptor.w3 (d : OpcodeDescriptor) : Bool :=
  !d.modrm ||
    ((match d.deref d.r with
      | some o => o.kind.isRegister
      | none => false)
    && (d.m.isSome != d.rm.isSome)
    && (match d.deref d.opRole with
      | some o => o.kind.isRegisterOrRm
      | none => false)
    && d.opRole != d.r)

/-- The operand at place `k` has a ModRM role. -/
def OpcodeDescriptor.hasRole (d : OpcodeDescriptor) (k : Nat) : Bool :=
  d.r == some k || d.m == some k || d.rm == some k

/-- W4, from place `k` on: an operand is FIXED if and only if it has no ModRM role. -/
def OpcodeDescriptor.w4From (d : OpcodeDescriptor) : Nat → List OperandDescriptor → Bool
  | _, [] => true
  | k, o :: rest => ((o.kind == .fixed) == !d.hasRole k) && d.w4From (k + 1) rest

/-- W4. -/
def OpcodeDescriptor.w4 (d : OpcodeDescriptor) : Bool := d.w4From 0 d.operands

/-- W5: a FIXED operand has `alt0`; any other has neither literal. -/
def OpcodeDescriptor.w5 (d : OpcodeDescriptor) : Bool :=
  d.operands.all fun o => if o.kind = .fixed then o.alt0.isSome else o.alt0.isNone && o.alt1.isNone

/-- WF(D), the conjunction of W1 to W5 (10_state.md R41). -/
def OpcodeDescriptor.wf (d : OpcodeDescriptor) (nslot : Option Nat) : Bool :=
  d.w1 nslot && d.w2 && d.w3 && d.w4 && d.w5

/-- Every present entry of a table is well-formed. -/
def OpcodeTable.wf (t : OpcodeTable) (nslot : Option Nat) : Bool :=
  t.cells.all fun c => c.2.wf nslot

/-- What the source fixes of `T1[C3]`: present, no operands, no ModRM (30_encoding.md R112). -/
def Params.cellC3Ok (p : Params) : Bool :=
  match p.lookup .t1 0xC3#8 with
  | some d => d.operands.isEmpty && !d.modrm && d.r.isNone && d.m.isNone && d.rm.isNone
  | none => false

/-- What the source fixes of `T1[89]`: present, two operands, ModRM, `r` of kind GPR, `rm` of the general class, no `m`
(30_encoding.md R112). -/
def Params.cell89Ok (p : Params) : Bool :=
  match p.lookup .t1 0x89#8 with
  | some d =>
    d.operands.length == 2 && d.modrm && d.m.isNone
      && (match d.deref d.r with
          | some o => o.kind == .gpr
          | none => false)
      && (match d.deref d.rm with
          | some o => o.kind == .gpr || o.kind == .rm
          | none => false)
  | none => false

/-- Parameters as 92_eei_decisions.md's OPEN table asks for them: every present entry well-formed, the two constrained
cells, SEL_A other than SEL_B, NSLOT at least 2. -/
def Params.wf (p : Params) : Bool :=
  p.t1.wf p.nslot && p.t2.wf p.nslot && p.t3a.wf p.nslot && p.t3b.wf p.nslot
    && p.cellC3Ok && p.cell89Ok && p.selA != p.selB && withinNslot p.nslot 2

namespace Machine

/-- DESC.r, the operand that receives the ModRM `reg` field. -/
def State.regRole (s : State) : Option OperandDescriptor :=
  s.desc.bind fun d => d.deref d.r

/-- `op`, the operand that receives the rm field (43_addressing_mode.md R193). -/
def State.opRole (s : State) : Option OperandDescriptor :=
  s.desc.bind fun d => d.deref d.opRole

/-- DESC.m is present (43_addressing_mode.md R196). -/
def State.memOnly (s : State) : Bool :=
  match s.desc with
  | some d => d.m.isSome
  | none => false

end Machine

end Sys2Proof
end

