-- ==== Sys2Proof/Machine/Flags.lean ====
section
/-! DEFINITION. PFX and REX: reading and setting their flags (10_state.md R34, R35), and the STATUS codes
(60_exceptions.md R281). The block has no other flags (10_state.md R36). -/

namespace Sys2Proof.Machine

/-- The flag `f` of PFX. -/
def PrefixSet.get (p : PrefixSet) : PfxFlag → Bool
  | .lock => p.lock
  | .cs => p.cs
  | .ss => p.ss
  | .ds => p.ds
  | .es => p.es
  | .fs => p.fs
  | .gs => p.gs
  | .repne => p.repne
  | .rep => p.rep
  | .hintNotTaken => p.hintNotTaken
  | .hintTaken => p.hintTaken
  | .opsize => p.opsize
  | .addrsize => p.addrsize

/-- `PFX[f] <- 1` (40_prefix_scanner.md R140). -/
def PrefixSet.set (p : PrefixSet) : PfxFlag → PrefixSet
  | .lock => { p with lock := true }
  | .cs => { p with cs := true }
  | .ss => { p with ss := true }
  | .ds => { p with ds := true }
  | .es => { p with es := true }
  | .fs => { p with fs := true }
  | .gs => { p with gs := true }
  | .repne => { p with repne := true }
  | .rep => { p with rep := true }
  | .hintNotTaken => { p with hintNotTaken := true }
  | .hintTaken => { p with hintTaken := true }
  | .opsize => { p with opsize := true }
  | .addrsize => { p with addrsize := true }

/-- A bit of REX, 0 when REX is absent (10_state.md R35). -/
def rexBit (rex : Option RexFlags) (bit : RexFlags → Bool) : Bool :=
  match rex with
  | none => false
  | some f => bit f

def State.rexW (s : State) : Bool := rexBit s.rex RexFlags.w

def State.rexR (s : State) : Bool := rexBit s.rex RexFlags.r

def State.rexX (s : State) : Bool := rexBit s.rex RexFlags.x

def State.rexB (s : State) : Bool := rexBit s.rex RexFlags.b

/-- The codes of the error kinds (60_exceptions.md R281; 92 D3). -/
def DecodeError.code : DecodeError → BitVec 2
  | .truncated => 1#2
  | .unknownOpcode => 2#2
  | .invalidEncoding => 3#2

/-- STATUS: 0 OK, else the error's code (60_exceptions.md R281). -/
def CallResult.status : CallResult → BitVec 2
  | .ok _ => 0#2
  | .error e => e.code

/-- STATUS as it stands: no value until a call has finished (10_state.md R48). -/
def State.status (s : State) : Option (BitVec 2) :=
  s.out.map fun o => o.result.status

end Sys2Proof.Machine
end

