-- ==== Sys2Proof/Machine/Operands.lean ====
section
/-! DEFINITION. Every operand form the block produces: register designators (10_state.md R26), the index term
(44_sib.md R222), the memory expressions (10_state.md R42), the FIXED literals (45_fixed_operand.md R250). -/

namespace Sys2Proof.Machine

/-! ## Registers -/

/-- `raw | (rexbit << 3)` (30_encoding.md R110). -/
def ext4 (raw : BitVec 3) (rexbit : Bool) : BitVec 4 :=
  raw.setWidth 4 ||| ((BitVec.ofBool rexbit).setWidth 4 <<< 3)

/-- regclass (10_state.md R26); kind RM resolves in the general class (92 D9). FIXED is never asked (W3). -/
def regclass : OperandKind → RegClass
  | .gpr => .gpr
  | .mmx => .mmx
  | .xmm => .xmm
  | .rm => .gpr
  | .fixed => .gpr

/-- The width rule: for GPR 64 if REX.w, else 32; none for the other classes (10_state.md R26, R28). -/
def widthOf (cls : RegClass) (rexW : Bool) : Option Width :=
  match cls with
  | .gpr => some (if rexW then .w64 else .w32)
  | .mmx => none
  | .xmm => none

/-- `regdes(kind, idx4)` (10_state.md R26). -/
def State.regdes (s : State) (kind : OperandKind) (idx4 : BitVec 4) : Designator :=
  { cls := regclass kind, width := widthOf (regclass kind) s.rexW, idx := idx4 }

/-! ## Memory expressions -/

/-- `1 << ss` (44_sib.md R220). -/
def scaleOf (ss : BitVec 2) : Scale :=
  match ss.toNat with
  | 0 => .s1
  | 1 => .s2
  | 2 => .s4
  | _ => .s8

/-- The number a scale stands for. -/
def Scale.toNat : Scale → Nat
  | .s1 => 1
  | .s2 => 2
  | .s4 => 4
  | .s8 => 8

/-- The index term of a SIB byte for an operand of kind `kind`: none when the RAW field is 4, REX.x not consulted
(44_sib.md R222). -/
def State.indexTerm (s : State) (kind : OperandKind) (idx : BitVec 3) (ss : BitVec 2) : Option IndexTerm :=
  if idx = 4#3 then none
  else some { scale := scaleOf ss, reg := s.regdes kind (ext4 idx s.rexX) }

/-- The index term in the list view: a scale of 1 is not written (10_state.md R42). -/
def indexParts : Option IndexTerm → List Part
  | none => []
  | some t => if t.scale = .s1 then [.r t.reg] else [.sr t.scale t.reg]

/-- The displacement in the list view. -/
def dispParts : Option Int → List Part
  | none => []
  | some d => [.d d]

/-- Base register, index term if any, displacement if any, in that order (43_addressing_mode.md R198, R199;
44_sib.md R223, R224). -/
def baseExpr (base : Designator) (index : Option IndexTerm) (disp : Option Int) : MemoryExpr :=
  { base := some base, index := index, disp := disp, lst := [.r base] ++ indexParts index ++ dispParts disp }

/-- No base: index term if any, displacement (44_sib.md R226). -/
def noBaseExpr (index : Option IndexTerm) (disp : Option Int) : MemoryExpr :=
  { base := none, index := index, disp := disp, lst := indexParts index ++ dispParts disp }

/-- Base 5 with `mod` 1 or 2: the record of any other base, the register last in the list view (44_sib.md R227). -/
def base5Expr (base : Designator) (index : Option IndexTerm) (disp : Option Int) : MemoryExpr :=
  { base := some base, index := index, disp := disp, lst := indexParts index ++ dispParts disp ++ [.r base] }

/-! ## FIXED literals -/

/-- The literal of a FIXED operand: of two, the one REX.b selects; a single one unconditionally
(45_fixed_operand.md R250, R254). -/
def selectLiteral (o : OperandDescriptor) (rexB : Bool) : Option Literal :=
  match o.alt1 with
  | some l1 => if rexB then some l1 else o.alt0
  | none => o.alt0

/-- What FIXRES writes for one operand descriptor (R250). -/
def fixSlot (rexB : Bool) (slots : List (Option Operand)) (o : OperandDescriptor) : List (Option Operand) :=
  if o.kind = .fixed then
    match selectLiteral o rexB with
    | some l => slots.set o.index (some (.lit l))
    | none => slots
  else slots

/-- The loop of FIXRES, in operand-list order (R250, R251). -/
def fixSlots (rexB : Bool) (operands : List OperandDescriptor) (slots : List (Option Operand)) :
    List (Option Operand) :=
  operands.foldl (fixSlot rexB) slots

/-- `[SLOT[0], .., SLOT[n-1]]` when no slot is empty (46_orchestrator.md R260). -/
def collectSlots : List (Option Operand) → Option (List Operand)
  | [] => some []
  | none :: _ => none
  | some o :: rest => (collectSlots rest).map (o :: ·)

end Sys2Proof.Machine
end

