-- ==== Sys2Proof/Machine/Ops.lean ====
section
/-! DEFINITION. The shared operations: the five cursor primitives (20_memory.md R62 to R68), the start and the end of a
call, raising an error (60_exceptions.md R284), and the operations the rows are lines over. -/

namespace Sys2Proof.Machine

/-! ## The cursor -/

/-- `MemRead(addr, n)`, defined when `addr + n <= LEN`, lowest address first (20_memory.md R62). -/
def State.memRead (s : State) (a n : Nat) : Option (List Byte) :=
  if a + n ≤ s.len then some ((List.range n).map fun k => s.buf.read (a + k)) else none

/-- `peek()` (R64); `none` is Truncated. -/
def State.peek (s : State) : Option Byte :=
  if s.pos + 1 ≤ s.len then some (s.buf.read s.pos) else none

/-- `skip(n)` (R65); `none` is Truncated. -/
def State.skip (s : State) (n : Nat) : Option State :=
  if s.pos + n ≤ s.len then some { s with pos := s.pos + n } else none

/-- `readU8()` (R66). -/
def State.readU8 (s : State) : Option (Byte × State) :=
  if s.pos + 1 ≤ s.len then some (s.buf.read s.pos, { s with pos := s.pos + 1 }) else none

/-- `readI8()`, the byte as a two's-complement number (R67). -/
def State.readI8 (s : State) : Option (Int × State) :=
  if s.pos + 1 ≤ s.len then some ((s.buf.read s.pos).toInt, { s with pos := s.pos + 1 }) else none

/-- The 32-bit pattern of four bytes, `b0` least significant (R68, R70; 92 D1). -/
def le32 (b0 b1 b2 b3 : Byte) : BitVec 32 := ((b3 ++ b2) ++ b1) ++ b0

/-- `readI32()` (R68). -/
def State.readI32 (s : State) : Option (Int × State) :=
  if s.pos + 4 ≤ s.len then
    some ((le32 (s.buf.read s.pos) (s.buf.read (s.pos + 1)) (s.buf.read (s.pos + 2)) (s.buf.read (s.pos + 3))).toInt,
      { s with pos := s.pos + 4 })
  else none

/-- The displacement of a memory form: none, `readI8()`, or `readI32()` (30_encoding.md R109), kept in DISP. -/
def State.readDisp (s : State) : MemMod → Option (Option Int × State)
  | .m0 => some (none, s)
  | .m1 => s.readI8.map fun q => (some q.1, { q.2 with disp := some q.1 })
  | .m2 => s.readI32.map fun q => (some q.1, { q.2 with disp := some q.1 })

/-! ## The start and the end of a call -/

/-- No working register holds a value and no call is in progress (10_state.md R20, R48). -/
def State.discardWork (s : State) : State :=
  { s with
    pos0 := none, pfx := PrefixSet.empty, rex := none, opc := none, desc := none, modrm := none, sib := none,
    disp := none, slots := none, stage := .idle }

/-- The start of a call: fresh working state, STATUS without a value, POS0 the cursor's position (10_state.md R48,
46_orchestrator.md R260). -/
def State.beginCall (s : State) : State :=
  { s.discardWork with pos0 := some s.pos, out := none, stage := .scan }

/-- The side outputs a call has completed: PFX and REX once PFXSCAN and REXDEC are done (10_state.md R47). -/
def State.sideNow (s : State) : Option Side :=
  if s.stage = .scan then none else some { pfx := s.pfx, rex := s.rex }

/-- The unconstrained draw of POS in 0..LEN (10_state.md R33; 92 D4; 93 U1). Log 1. -/
def State.drawPos (s : State) : Nat := Config.posAfterError s.drawn % (s.len + 1)

/-- `raise E`: no later stage runs, the working state is discarded, STATUS takes the code of `E`, POS is unreliable,
control returns to the caller (60_exceptions.md R284, R283). -/
def State.raiseError (s : State) (e : DecodeError) : State :=
  { s.discardWork with pos := s.drawPos, drawn := s.drawn + 1, out := some { result := .error e, side := s.sideNow } }

/-- The successful return: the Instruction, STATUS OK, the working state discarded (46_orchestrator.md R260, R263). -/
def State.returnOk (s : State) (i : Instruction) : State :=
  { s.discardWork with out := some { result := .ok i, side := s.sideNow } }

/-- PFXSCAN and REXDEC are done: the next byte is the opcode's first (41_rex_decoder.md R162). -/
def State.endScan (s : State) : State := { s with stage := .opcode }

/-- FIXRES over all operand descriptors, then the return (45_fixed_operand.md R250; 46_orchestrator.md R260). -/
def fixresAndReturn (s : State) : Result :=
  match s.desc, s.slots with
  | some d, some slots =>
    match collectSlots (fixSlots s.rexB d.operands slots) with
    | some ops => .next (s.returnOk { tag := d.tag, operands := ops })
    | none => .refused .illFormedDescriptor
  | _, _ => .refused .illFormedDescriptor

/-! ## What the rows do -/

/-- A PREFIX row: `PFX[f] <- 1; skip(1)` (40_prefix_scanner.md R140). -/
def pfxRow (f : PfxFlag) (s : State) : Result :=
  match s.skip 1 with
  | none => .next (s.raiseError .truncated)
  | some t => .next { t with pfx := s.pfx.set f }

/-- The REX row: the four bits, `skip(1)`; the opcode follows (41_rex_decoder.md R160, R163). -/
def rexRow (w r x b : Bool) (s : State) : Result :=
  match s.skip 1 with
  | none => .next (s.raiseError .truncated)
  | some t => .next { t with rex := some { w := w, r := r, x := x, b := b }, stage := .opcode }

/-- nopc, the number of opcode bytes (10_state.md R20). -/
def OpcBytes.count : OpcBytes → Nat
  | .one _ => 1
  | .two _ _ => 2
  | .threeA _ _ _ => 3
  | .threeB _ _ _ => 3

/-- The table an opcode shape consults, and its key (30_encoding.md R106). -/
def OpcBytes.entry (o : OpcBytes) (p : Params) : Option OpcodeDescriptor :=
  match o with
  | .one o1 => p.lookup .t1 o1
  | .two _ o2 => p.lookup .t2 o2
  | .threeA _ _ o3 => p.lookup .t3a o3
  | .threeB _ _ o3 => p.lookup .t3b o3

/-- A slot array of `n` empty slots (46_orchestrator.md R262). -/
def emptySlots (n : Nat) : List (Option Operand) := List.replicate n none

/-- The resolved descriptor is taken: refused when not well-formed (10_state.md R41), else DESC is written and the slot
array allocated; AMODE runs next if the descriptor has ModRM, else FIXRES (46_orchestrator.md R260, R261). -/
def resolve (d : OpcodeDescriptor) (s : State) : Result :=
  if d.wf s.cfg.nslot then
    .next { s with
      desc := some d, slots := some (emptySlots d.operands.length), stage := if d.modrm then .modrm else .fixed }
  else .refused .illFormedDescriptor

/-- An opcode row: its bytes are consumed before the lookup, so Truncated comes before UnknownOpcode
(42_opcode_resolver.md R170, R175). -/
def opcodeRow (o : OpcBytes) (s : State) : Result :=
  match s.endScan.skip o.count with
  | none => .next (s.endScan.raiseError .truncated)
  | some t =>
    match o.entry s.cfg with
    | none => .next (t.raiseError .unknownOpcode)
    | some d => resolve d { t with opc := some o }

/-- `SLOT[i] <- v` (00_scope.md R11). -/
def State.setSlot (s : State) (i : Nat) (v : Operand) : State :=
  { s with slots := s.slots.map fun l => l.set i (some v) }

/-- MODRM_REG: the ModRM byte is consumed and split, and the reg operand stored (43_addressing_mode.md R190, R191). -/
def regRow (mod : BitVec 2) (reg rm : BitVec 3) (s : State) : Result :=
  match s.skip 1 with
  | none => .next (s.raiseError .truncated)
  | some t =>
    match s.regRole with
    | none => .refused .illFormedDescriptor
    | some o =>
      .next { t.setSlot o.index (.reg (s.regdes o.kind (ext4 reg s.rexR))) with
        modrm := some { mod := mod, reg := reg, rm := rm }, stage := .rm }

/-- The rows that raise InvalidEncoding (43_addressing_mode.md R195, R196). -/
def invalidRow (s : State) : Result := .next (s.raiseError .invalidEncoding)

/-- The operand of `op`'s slot is stored and AMODE ends (44_sib.md R221). -/
def storeOp (o : OperandDescriptor) (v : Operand) (s : State) : Result :=
  .next { s.setSlot o.index v with stage := .fixed }

/-- MODRM_REGDIRECT (43_addressing_mode.md R197). -/
def directRow (rm : BitVec 3) (s : State) : Result :=
  match s.opRole with
  | none => .refused .illFormedDescriptor
  | some o => storeOp o (.reg (s.regdes o.kind (ext4 rm s.rexB))) s

/-- A "SIB follows" row: the SIB byte is read and split (44_sib.md R220). -/
def followsRow (s : State) : Result :=
  match s.readU8 with
  | none => .next (s.raiseError .truncated)
  | some q => .next { q.2 with sib := some (Sib.ofByte q.1), stage := .sib }

/-- A memory operand: the displacement of `k` is read, then the expression `e` of it is stored in `op`'s slot. -/
def memOp (k : MemMod) (e : OperandDescriptor → Option Int → MemoryExpr) (s : State) : Result :=
  match s.opRole with
  | none => .refused .illFormedDescriptor
  | some o =>
    match s.readDisp k with
    | none => .next (s.raiseError .truncated)
    | some q => storeOp o (.mem (e o q.1)) q.2

/-- A no-SIB memory row with REX.x 0: base register, displacement by `mod` (43_addressing_mode.md R198, R199). -/
def memRow (k : MemMod) (rm : BitVec 3) (s : State) : Result :=
  memOp k (fun o d => baseExpr (s.regdes o.kind (ext4 rm s.rexB)) none d) s

/-- A SIB row whose base is not 5: base, index term, displacement by `mod` (44_sib.md R223, R224). -/
def sibBaseRow (k : MemMod) (idx bs : BitVec 3) (ss : BitVec 2) (s : State) : Result :=
  memOp k (fun o d => baseExpr (s.regdes o.kind (ext4 bs s.rexB)) (s.indexTerm o.kind idx ss) d) s

/-- A base-5 SIB row with `mod` 0: index term and 4-byte displacement, no base (44_sib.md R226). -/
def sibNoBaseRow (idx : BitVec 3) (ss : BitVec 2) (s : State) : Result :=
  memOp .m2 (fun o d => noBaseExpr (s.indexTerm o.kind idx ss) d) s

/-- A base-5 SIB row with `mod` 1 or 2: base register 5, displacement by `mod` (44_sib.md R227). The register is the
extended base, which is 5 whenever the extended test holds; log 16 for the raw test. -/
def sibBase5Row (k : MemMod) (idx : BitVec 3) (ss : BitVec 2) (s : State) : Result :=
  memOp k (fun o d => base5Expr (s.regdes o.kind (ext4 5#3 s.rexB)) (s.indexTerm o.kind idx ss) d) s

end Sys2Proof.Machine
end

