-- ==== Sys2Proof/Machine/ModRM.lean ====
section
/-! DEFINITION. The MODRM rows (43_addressing_mode.md R191, R195 to R199; 44_sib.md R220).
One meaning per row, each over a shared operation of Machine/Ops.lean. -/

namespace Sys2Proof.Machine

/-- MODRM_REG: R191. When DESC.modrm; applies to every ModRM value, before the rows below. -/
def execModrmReg (mod : BitVec 2) (reg rm : BitVec 3) (s : State) : Result :=
  regRow mod reg rm s

/-- MODRM_REGDIRECT_INVALID: R196. When DESC.m present. -/
def execModrmRegdirectInvalid (s : State) : Result :=
  invalidRow s

/-- MODRM_REGDIRECT: R197. When DESC.m absent. -/
def execModrmRegdirect (rm : BitVec 3) (s : State) : Result :=
  directRow rm s

/-- MODRM_SIB_FOLLOWS_MOD0: R220. -/
def execModrmSibFollowsMod0 (s : State) : Result :=
  followsRow s

/-- MODRM_SIB_FOLLOWS_MOD1: R220. -/
def execModrmSibFollowsMod1 (s : State) : Result :=
  followsRow s

/-- MODRM_SIB_FOLLOWS_MOD2: R220. -/
def execModrmSibFollowsMod2 (s : State) : Result :=
  followsRow s

/-- MODRM_MEM_MOD0_RM0_REXX: R195. When REX.x == 1. -/
def execModrmMemMod0Rm0Rexx (s : State) : Result :=
  invalidRow s

/-- MODRM_MEM_MOD0_RM0: R198. When REX.x == 0. -/
def execModrmMemMod0Rm0 (s : State) : Result :=
  memRow .m0 0#3 s

/-- MODRM_MEM_MOD0_RM1_REXX: R195. When REX.x == 1. -/
def execModrmMemMod0Rm1Rexx (s : State) : Result :=
  invalidRow s

/-- MODRM_MEM_MOD0_RM1: R198. When REX.x == 0. -/
def execModrmMemMod0Rm1 (s : State) : Result :=
  memRow .m0 1#3 s

/-- MODRM_MEM_MOD0_RM2_REXX: R195. When REX.x == 1. -/
def execModrmMemMod0Rm2Rexx (s : State) : Result :=
  invalidRow s

/-- MODRM_MEM_MOD0_RM2: R198. When REX.x == 0. -/
def execModrmMemMod0Rm2 (s : State) : Result :=
  memRow .m0 2#3 s

/-- MODRM_MEM_MOD0_RM3_REXX: R195. When REX.x == 1. -/
def execModrmMemMod0Rm3Rexx (s : State) : Result :=
  invalidRow s

/-- MODRM_MEM_MOD0_RM3: R198. When REX.x == 0. -/
def execModrmMemMod0Rm3 (s : State) : Result :=
  memRow .m0 3#3 s

/-- MODRM_MEM_MOD0_RM5_REXX: R195. When REX.x == 1. -/
def execModrmMemMod0Rm5Rexx (s : State) : Result :=
  invalidRow s

/-- MODRM_MEM_MOD0_RM5: R198. When REX.x == 0. -/
def execModrmMemMod0Rm5 (s : State) : Result :=
  memRow .m0 5#3 s

/-- MODRM_MEM_MOD0_RM6_REXX: R195. When REX.x == 1. -/
def execModrmMemMod0Rm6Rexx (s : State) : Result :=
  invalidRow s

/-- MODRM_MEM_MOD0_RM6: R198. When REX.x == 0. -/
def execModrmMemMod0Rm6 (s : State) : Result :=
  memRow .m0 6#3 s

/-- MODRM_MEM_MOD0_RM7_REXX: R195. When REX.x == 1. -/
def execModrmMemMod0Rm7Rexx (s : State) : Result :=
  invalidRow s

/-- MODRM_MEM_MOD0_RM7: R198. When REX.x == 0. -/
def execModrmMemMod0Rm7 (s : State) : Result :=
  memRow .m0 7#3 s

/-- MODRM_MEM_MOD1_RM0_REXX: R195. When REX.x == 1. -/
def execModrmMemMod1Rm0Rexx (s : State) : Result :=
  invalidRow s

/-- MODRM_MEM_MOD1_RM0: R199. When REX.x == 0. -/
def execModrmMemMod1Rm0 (s : State) : Result :=
  memRow .m1 0#3 s

/-- MODRM_MEM_MOD1_RM1_REXX: R195. When REX.x == 1. -/
def execModrmMemMod1Rm1Rexx (s : State) : Result :=
  invalidRow s

/-- MODRM_MEM_MOD1_RM1: R199. When REX.x == 0. -/
def execModrmMemMod1Rm1 (s : State) : Result :=
  memRow .m1 1#3 s

/-- MODRM_MEM_MOD1_RM2_REXX: R195. When REX.x == 1. -/
def execModrmMemMod1Rm2Rexx (s : State) : Result :=
  invalidRow s

/-- MODRM_MEM_MOD1_RM2: R199. When REX.x == 0. -/
def execModrmMemMod1Rm2 (s : State) : Result :=
  memRow .m1 2#3 s

/-- MODRM_MEM_MOD1_RM3_REXX: R195. When REX.x == 1. -/
def execModrmMemMod1Rm3Rexx (s : State) : Result :=
  invalidRow s

/-- MODRM_MEM_MOD1_RM3: R199. When REX.x == 0. -/
def execModrmMemMod1Rm3 (s : State) : Result :=
  memRow .m1 3#3 s

/-- MODRM_MEM_MOD1_RM5_REXX: R195. When REX.x == 1. -/
def execModrmMemMod1Rm5Rexx (s : State) : Result :=
  invalidRow s

/-- MODRM_MEM_MOD1_RM5: R199. When REX.x == 0. -/
def execModrmMemMod1Rm5 (s : State) : Result :=
  memRow .m1 5#3 s

/-- MODRM_MEM_MOD1_RM6_REXX: R195. When REX.x == 1. -/
def execModrmMemMod1Rm6Rexx (s : State) : Result :=
  invalidRow s

/-- MODRM_MEM_MOD1_RM6: R199. When REX.x == 0. -/
def execModrmMemMod1Rm6 (s : State) : Result :=
  memRow .m1 6#3 s

/-- MODRM_MEM_MOD1_RM7_REXX: R195. When REX.x == 1. -/
def execModrmMemMod1Rm7Rexx (s : State) : Result :=
  invalidRow s

/-- MODRM_MEM_MOD1_RM7: R199. When REX.x == 0. -/
def execModrmMemMod1Rm7 (s : State) : Result :=
  memRow .m1 7#3 s

/-- MODRM_MEM_MOD2_RM0_REXX: R195. When REX.x == 1. -/
def execModrmMemMod2Rm0Rexx (s : State) : Result :=
  invalidRow s

/-- MODRM_MEM_MOD2_RM0: R199. When REX.x == 0. -/
def execModrmMemMod2Rm0 (s : State) : Result :=
  memRow .m2 0#3 s

/-- MODRM_MEM_MOD2_RM1_REXX: R195. When REX.x == 1. -/
def execModrmMemMod2Rm1Rexx (s : State) : Result :=
  invalidRow s

/-- MODRM_MEM_MOD2_RM1: R199. When REX.x == 0. -/
def execModrmMemMod2Rm1 (s : State) : Result :=
  memRow .m2 1#3 s

/-- MODRM_MEM_MOD2_RM2_REXX: R195. When REX.x == 1. -/
def execModrmMemMod2Rm2Rexx (s : State) : Result :=
  invalidRow s

/-- MODRM_MEM_MOD2_RM2: R199. When REX.x == 0. -/
def execModrmMemMod2Rm2 (s : State) : Result :=
  memRow .m2 2#3 s

/-- MODRM_MEM_MOD2_RM3_REXX: R195. When REX.x == 1. -/
def execModrmMemMod2Rm3Rexx (s : State) : Result :=
  invalidRow s

/-- MODRM_MEM_MOD2_RM3: R199. When REX.x == 0. -/
def execModrmMemMod2Rm3 (s : State) : Result :=
  memRow .m2 3#3 s

/-- MODRM_MEM_MOD2_RM5_REXX: R195. When REX.x == 1. -/
def execModrmMemMod2Rm5Rexx (s : State) : Result :=
  invalidRow s

/-- MODRM_MEM_MOD2_RM5: R199. When REX.x == 0. -/
def execModrmMemMod2Rm5 (s : State) : Result :=
  memRow .m2 5#3 s

/-- MODRM_MEM_MOD2_RM6_REXX: R195. When REX.x == 1. -/
def execModrmMemMod2Rm6Rexx (s : State) : Result :=
  invalidRow s

/-- MODRM_MEM_MOD2_RM6: R199. When REX.x == 0. -/
def execModrmMemMod2Rm6 (s : State) : Result :=
  memRow .m2 6#3 s

/-- MODRM_MEM_MOD2_RM7_REXX: R195. When REX.x == 1. -/
def execModrmMemMod2Rm7Rexx (s : State) : Result :=
  invalidRow s

/-- MODRM_MEM_MOD2_RM7: R199. When REX.x == 0. -/
def execModrmMemMod2Rm7 (s : State) : Result :=
  memRow .m2 7#3 s

end Sys2Proof.Machine
end

