-- ==== Sys2Proof/Machine/Opcode.lean ====
section
/-! DEFINITION. The opcode rows (42_opcode_resolver.md R171 to R174) and the two T1 cells the source constrains (30_encoding.md R112).
One meaning per row, each over a shared operation of Machine/Ops.lean. -/

namespace Sys2Proof.Machine

/-- OPC_ONE_BYTE: R171. When o1 != ESC (0x0F). -/
def execOpcOneByte (o1 : Byte) (s : State) : Result :=
  opcodeRow (.one o1) s

/-- ESC_TWO_BYTE: R172. When next byte o2 is neither SEL_A (0x38) nor SEL_B (0x3A). -/
def execEscTwoByte (o2 : Byte) (s : State) : Result :=
  opcodeRow (.two s.cfg.esc o2) s

/-- ESC_THREE_BYTE_A: R173. -/
def execEscThreeByteA (o3 : Byte) (s : State) : Result :=
  opcodeRow (.threeA s.cfg.esc s.cfg.selA o3) s

/-- ESC_THREE_BYTE_B: R174. -/
def execEscThreeByteB (o3 : Byte) (s : State) : Result :=
  opcodeRow (.threeB s.cfg.esc s.cfg.selB o3) s

/-- T1_C3: R112. -/
def execT1C3 (s : State) : Result :=
  opcodeRow (.one 0xC3#8) s

/-- T1_89: R112. -/
def execT189 (s : State) : Result :=
  opcodeRow (.one 0x89#8) s

end Sys2Proof.Machine
end

