-- ==== Sys2Proof/Machine/Prefix.lean ====
section
/-! DEFINITION. The PREFIX rows (40_prefix_scanner.md R142 to R153).
One meaning per row, each over a shared operation of Machine/Ops.lean. -/

namespace Sys2Proof.Machine

/-- PFX_LOCK: R142. -/
def execPfxLock (s : State) : Result :=
  pfxRow .lock s

/-- PFX_CS: R143. -/
def execPfxCs (s : State) : Result :=
  pfxRow .cs s

/-- PFX_SS: R144. -/
def execPfxSs (s : State) : Result :=
  pfxRow .ss s

/-- PFX_DS: R145. -/
def execPfxDs (s : State) : Result :=
  pfxRow .ds s

/-- PFX_ES: R146. -/
def execPfxEs (s : State) : Result :=
  pfxRow .es s

/-- PFX_FS: R147. -/
def execPfxFs (s : State) : Result :=
  pfxRow .fs s

/-- PFX_GS: R148. -/
def execPfxGs (s : State) : Result :=
  pfxRow .gs s

/-- PFX_REPNE: R149. -/
def execPfxRepne (s : State) : Result :=
  pfxRow .repne s

/-- PFX_REP: R150. -/
def execPfxRep (s : State) : Result :=
  pfxRow .rep s

/-- PFX_HINT_NOT_TAKEN: R153. -/
def execPfxHintNotTaken (s : State) : Result :=
  pfxRow .hintNotTaken s

/-- PFX_HINT_TAKEN: R153. -/
def execPfxHintTaken (s : State) : Result :=
  pfxRow .hintTaken s

/-- PFX_OPSIZE: R151. -/
def execPfxOpsize (s : State) : Result :=
  pfxRow .opsize s

/-- PFX_ADDRSIZE: R152. -/
def execPfxAddrsize (s : State) : Result :=
  pfxRow .addrsize s

end Sys2Proof.Machine
end

