-- ==== Sys2Proof/Machine/Rex.lean ====
section
/-! DEFINITION. The REX row (41_rex_decoder.md R160).
One meaning per row, each over a shared operation of Machine/Ops.lean. -/

namespace Sys2Proof.Machine

/-- REX: R160. -/
def execRex (w r x b : Bool) (s : State) : Result :=
  rexRow w r x b s

end Sys2Proof.Machine
end

