-- ==== Sys2Proof/Machine/Sib.lean ====
section
/-! DEFINITION. The MODRM_SIB rows (44_sib.md R223, R224, R226, R227).
One meaning per row, each over a shared operation of Machine/Ops.lean. -/

namespace Sys2Proof.Machine

/-- SIB_MOD0_IDX0_BS0: R223. -/
def execSibMod0Idx0Bs0 (ss : BitVec 2) (s : State) : Result :=
  sibBaseRow .m0 0#3 0#3 ss s

/-- SIB_MOD0_IDX0_BS1: R223. -/
def execSibMod0Idx0Bs1 (ss : BitVec 2) (s : State) : Result :=
  sibBaseRow .m0 0#3 1#3 ss s

/-- SIB_MOD0_IDX0_BS2: R223. -/
def execSibMod0Idx0Bs2 (ss : BitVec 2) (s : State) : Result :=
  sibBaseRow .m0 0#3 2#3 ss s

/-- SIB_MOD0_IDX0_BS3: R223. -/
def execSibMod0Idx0Bs3 (ss : BitVec 2) (s : State) : Result :=
  sibBaseRow .m0 0#3 3#3 ss s

/-- SIB_MOD0_IDX0_BS4: R223. -/
def execSibMod0Idx0Bs4 (ss : BitVec 2) (s : State) : Result :=
  sibBaseRow .m0 0#3 4#3 ss s

/-- SIB_MOD0_IDX0_BS5_B5: R226. When REX.b == 0. -/
def execSibMod0Idx0Bs5B5 (ss : BitVec 2) (s : State) : Result :=
  sibNoBaseRow 0#3 ss s

/-- SIB_MOD0_IDX0_BS5_B13: R223. When REX.b == 1. -/
def execSibMod0Idx0Bs5B13 (ss : BitVec 2) (s : State) : Result :=
  sibBaseRow .m0 0#3 5#3 ss s

/-- SIB_MOD0_IDX0_BS6: R223. -/
def execSibMod0Idx0Bs6 (ss : BitVec 2) (s : State) : Result :=
  sibBaseRow .m0 0#3 6#3 ss s

/-- SIB_MOD0_IDX0_BS7: R223. -/
def execSibMod0Idx0Bs7 (ss : BitVec 2) (s : State) : Result :=
  sibBaseRow .m0 0#3 7#3 ss s

/-- SIB_MOD0_IDX1_BS0: R223. -/
def execSibMod0Idx1Bs0 (ss : BitVec 2) (s : State) : Result :=
  sibBaseRow .m0 1#3 0#3 ss s

/-- SIB_MOD0_IDX1_BS1: R223. -/
def execSibMod0Idx1Bs1 (ss : BitVec 2) (s : State) : Result :=
  sibBaseRow .m0 1#3 1#3 ss s

/-- SIB_MOD0_IDX1_BS2: R223. -/
def execSibMod0Idx1Bs2 (ss : BitVec 2) (s : State) : Result :=
  sibBaseRow .m0 1#3 2#3 ss s

/-- SIB_MOD0_IDX1_BS3: R223. -/
def execSibMod0Idx1Bs3 (ss : BitVec 2) (s : State) : Result :=
  sibBaseRow .m0 1#3 3#3 ss s

/-- SIB_MOD0_IDX1_BS4: R223. -/
def execSibMod0Idx1Bs4 (ss : BitVec 2) (s : State) : Result :=
  sibBaseRow .m0 1#3 4#3 ss s

/-- SIB_MOD0_IDX1_BS5_B5: R226. When REX.b == 0. -/
def execSibMod0Idx1Bs5B5 (ss : BitVec 2) (s : State) : Result :=
  sibNoBaseRow 1#3 ss s

/-- SIB_MOD0_IDX1_BS5_B13: R223. When REX.b == 1. -/
def execSibMod0Idx1Bs5B13 (ss : BitVec 2) (s : State) : Result :=
  sibBaseRow .m0 1#3 5#3 ss s

/-- SIB_MOD0_IDX1_BS6: R223. -/
def execSibMod0Idx1Bs6 (ss : BitVec 2) (s : State) : Result :=
  sibBaseRow .m0 1#3 6#3 ss s

/-- SIB_MOD0_IDX1_BS7: R223. -/
def execSibMod0Idx1Bs7 (ss : BitVec 2) (s : State) : Result :=
  sibBaseRow .m0 1#3 7#3 ss s

/-- SIB_MOD0_IDX2_BS0: R223. -/
def execSibMod0Idx2Bs0 (ss : BitVec 2) (s : State) : Result :=
  sibBaseRow .m0 2#3 0#3 ss s

/-- SIB_MOD0_IDX2_BS1: R223. -/
def execSibMod0Idx2Bs1 (ss : BitVec 2) (s : State) : Result :=
  sibBaseRow .m0 2#3 1#3 ss s

/-- SIB_MOD0_IDX2_BS2: R223. -/
def execSibMod0Idx2Bs2 (ss : BitVec 2) (s : State) : Result :=
  sibBaseRow .m0 2#3 2#3 ss s

/-- SIB_MOD0_IDX2_BS3: R223. -/
def execSibMod0Idx2Bs3 (ss : BitVec 2) (s : State) : Result :=
  sibBaseRow .m0 2#3 3#3 ss s

/-- SIB_MOD0_IDX2_BS4: R223. -/
def execSibMod0Idx2Bs4 (ss : BitVec 2) (s : State) : Result :=
  sibBaseRow .m0 2#3 4#3 ss s

/-- SIB_MOD0_IDX2_BS5_B5: R226. When REX.b == 0. -/
def execSibMod0Idx2Bs5B5 (ss : BitVec 2) (s : State) : Result :=
  sibNoBaseRow 2#3 ss s

/-- SIB_MOD0_IDX2_BS5_B13: R223. When REX.b == 1. -/
def execSibMod0Idx2Bs5B13 (ss : BitVec 2) (s : State) : Result :=
  sibBaseRow .m0 2#3 5#3 ss s

/-- SIB_MOD0_IDX2_BS6: R223. -/
def execSibMod0Idx2Bs6 (ss : BitVec 2) (s : State) : Result :=
  sibBaseRow .m0 2#3 6#3 ss s

/-- SIB_MOD0_IDX2_BS7: R223. -/
def execSibMod0Idx2Bs7 (ss : BitVec 2) (s : State) : Result :=
  sibBaseRow .m0 2#3 7#3 ss s

/-- SIB_MOD0_IDX3_BS0: R223. -/
def execSibMod0Idx3Bs0 (ss : BitVec 2) (s : State) : Result :=
  sibBaseRow .m0 3#3 0#3 ss s

/-- SIB_MOD0_IDX3_BS1: R223. -/
def execSibMod0Idx3Bs1 (ss : BitVec 2) (s : State) : Result :=
  sibBaseRow .m0 3#3 1#3 ss s

/-- SIB_MOD0_IDX3_BS2: R223. -/
def execSibMod0Idx3Bs2 (ss : BitVec 2) (s : State) : Result :=
  sibBaseRow .m0 3#3 2#3 ss s

/-- SIB_MOD0_IDX3_BS3: R223. -/
def execSibMod0Idx3Bs3 (ss : BitVec 2) (s : State) : Result :=
  sibBaseRow .m0 3#3 3#3 ss s

/-- SIB_MOD0_IDX3_BS4: R223. -/
def execSibMod0Idx3Bs4 (ss : BitVec 2) (s : State) : Result :=
  sibBaseRow .m0 3#3 4#3 ss s

/-- SIB_MOD0_IDX3_BS5_B5: R226. When REX.b == 0. -/
def execSibMod0Idx3Bs5B5 (ss : BitVec 2) (s : State) : Result :=
  sibNoBaseRow 3#3 ss s

/-- SIB_MOD0_IDX3_BS5_B13: R223. When REX.b == 1. -/
def execSibMod0Idx3Bs5B13 (ss : BitVec 2) (s : State) : Result :=
  sibBaseRow .m0 3#3 5#3 ss s

/-- SIB_MOD0_IDX3_BS6: R223. -/
def execSibMod0Idx3Bs6 (ss : BitVec 2) (s : State) : Result :=
  sibBaseRow .m0 3#3 6#3 ss s

/-- SIB_MOD0_IDX3_BS7: R223. -/
def execSibMod0Idx3Bs7 (ss : BitVec 2) (s : State) : Result :=
  sibBaseRow .m0 3#3 7#3 ss s

/-- SIB_MOD0_IDX4_BS0: R223. -/
def execSibMod0Idx4Bs0 (ss : BitVec 2) (s : State) : Result :=
  sibBaseRow .m0 4#3 0#3 ss s

/-- SIB_MOD0_IDX4_BS1: R223. -/
def execSibMod0Idx4Bs1 (ss : BitVec 2) (s : State) : Result :=
  sibBaseRow .m0 4#3 1#3 ss s

/-- SIB_MOD0_IDX4_BS2: R223. -/
def execSibMod0Idx4Bs2 (ss : BitVec 2) (s : State) : Result :=
  sibBaseRow .m0 4#3 2#3 ss s

/-- SIB_MOD0_IDX4_BS3: R223. -/
def execSibMod0Idx4Bs3 (ss : BitVec 2) (s : State) : Result :=
  sibBaseRow .m0 4#3 3#3 ss s

/-- SIB_MOD0_IDX4_BS4: R223. -/
def execSibMod0Idx4Bs4 (ss : BitVec 2) (s : State) : Result :=
  sibBaseRow .m0 4#3 4#3 ss s

/-- SIB_MOD0_IDX4_BS5_B5: R226. When REX.b == 0. -/
def execSibMod0Idx4Bs5B5 (ss : BitVec 2) (s : State) : Result :=
  sibNoBaseRow 4#3 ss s

/-- SIB_MOD0_IDX4_BS5_B13: R223. When REX.b == 1. -/
def execSibMod0Idx4Bs5B13 (ss : BitVec 2) (s : State) : Result :=
  sibBaseRow .m0 4#3 5#3 ss s

/-- SIB_MOD0_IDX4_BS6: R223. -/
def execSibMod0Idx4Bs6 (ss : BitVec 2) (s : State) : Result :=
  sibBaseRow .m0 4#3 6#3 ss s

/-- SIB_MOD0_IDX4_BS7: R223. -/
def execSibMod0Idx4Bs7 (ss : BitVec 2) (s : State) : Result :=
  sibBaseRow .m0 4#3 7#3 ss s

/-- SIB_MOD0_IDX5_BS0: R223. -/
def execSibMod0Idx5Bs0 (ss : BitVec 2) (s : State) : Result :=
  sibBaseRow .m0 5#3 0#3 ss s

/-- SIB_MOD0_IDX5_BS1: R223. -/
def execSibMod0Idx5Bs1 (ss : BitVec 2) (s : State) : Result :=
  sibBaseRow .m0 5#3 1#3 ss s

/-- SIB_MOD0_IDX5_BS2: R223. -/
def execSibMod0Idx5Bs2 (ss : BitVec 2) (s : State) : Result :=
  sibBaseRow .m0 5#3 2#3 ss s

/-- SIB_MOD0_IDX5_BS3: R223. -/
def execSibMod0Idx5Bs3 (ss : BitVec 2) (s : State) : Result :=
  sibBaseRow .m0 5#3 3#3 ss s

/-- SIB_MOD0_IDX5_BS4: R223. -/
def execSibMod0Idx5Bs4 (ss : BitVec 2) (s : State) : Result :=
  sibBaseRow .m0 5#3 4#3 ss s

/-- SIB_MOD0_IDX5_BS5_B5: R226. When REX.b == 0. -/
def execSibMod0Idx5Bs5B5 (ss : BitVec 2) (s : State) : Result :=
  sibNoBaseRow 5#3 ss s

/-- SIB_MOD0_IDX5_BS5_B13: R223. When REX.b == 1. -/
def execSibMod0Idx5Bs5B13 (ss : BitVec 2) (s : State) : Result :=
  sibBaseRow .m0 5#3 5#3 ss s

/-- SIB_MOD0_IDX5_BS6: R223. -/
def execSibMod0Idx5Bs6 (ss : BitVec 2) (s : State) : Result :=
  sibBaseRow .m0 5#3 6#3 ss s

/-- SIB_MOD0_IDX5_BS7: R223. -/
def execSibMod0Idx5Bs7 (ss : BitVec 2) (s : State) : Result :=
  sibBaseRow .m0 5#3 7#3 ss s

/-- SIB_MOD0_IDX6_BS0: R223. -/
def execSibMod0Idx6Bs0 (ss : BitVec 2) (s : State) : Result :=
  sibBaseRow .m0 6#3 0#3 ss s

/-- SIB_MOD0_IDX6_BS1: R223. -/
def execSibMod0Idx6Bs1 (ss : BitVec 2) (s : State) : Result :=
  sibBaseRow .m0 6#3 1#3 ss s

/-- SIB_MOD0_IDX6_BS2: R223. -/
def execSibMod0Idx6Bs2 (ss : BitVec 2) (s : State) : Result :=
  sibBaseRow .m0 6#3 2#3 ss s

/-- SIB_MOD0_IDX6_BS3: R223. -/
def execSibMod0Idx6Bs3 (ss : BitVec 2) (s : State) : Result :=
  sibBaseRow .m0 6#3 3#3 ss s

/-- SIB_MOD0_IDX6_BS4: R223. -/
def execSibMod0Idx6Bs4 (ss : BitVec 2) (s : State) : Result :=
  sibBaseRow .m0 6#3 4#3 ss s

/-- SIB_MOD0_IDX6_BS5_B5: R226. When REX.b == 0. -/
def execSibMod0Idx6Bs5B5 (ss : BitVec 2) (s : State) : Result :=
  sibNoBaseRow 6#3 ss s

/-- SIB_MOD0_IDX6_BS5_B13: R223. When REX.b == 1. -/
def execSibMod0Idx6Bs5B13 (ss : BitVec 2) (s : State) : Result :=
  sibBaseRow .m0 6#3 5#3 ss s

/-- SIB_MOD0_IDX6_BS6: R223. -/
def execSibMod0Idx6Bs6 (ss : BitVec 2) (s : State) : Result :=
  sibBaseRow .m0 6#3 6#3 ss s

/-- SIB_MOD0_IDX6_BS7: R223. -/
def execSibMod0Idx6Bs7 (ss : BitVec 2) (s : State) : Result :=
  sibBaseRow .m0 6#3 7#3 ss s

/-- SIB_MOD0_IDX7_BS0: R223. -/
def execSibMod0Idx7Bs0 (ss : BitVec 2) (s : State) : Result :=
  sibBaseRow .m0 7#3 0#3 ss s

/-- SIB_MOD0_IDX7_BS1: R223. -/
def execSibMod0Idx7Bs1 (ss : BitVec 2) (s : State) : Result :=
  sibBaseRow .m0 7#3 1#3 ss s

/-- SIB_MOD0_IDX7_BS2: R223. -/
def execSibMod0Idx7Bs2 (ss : BitVec 2) (s : State) : Result :=
  sibBaseRow .m0 7#3 2#3 ss s

/-- SIB_MOD0_IDX7_BS3: R223. -/
def execSibMod0Idx7Bs3 (ss : BitVec 2) (s : State) : Result :=
  sibBaseRow .m0 7#3 3#3 ss s

/-- SIB_MOD0_IDX7_BS4: R223. -/
def execSibMod0Idx7Bs4 (ss : BitVec 2) (s : State) : Result :=
  sibBaseRow .m0 7#3 4#3 ss s

/-- SIB_MOD0_IDX7_BS5_B5: R226. When REX.b == 0. -/
def execSibMod0Idx7Bs5B5 (ss : BitVec 2) (s : State) : Result :=
  sibNoBaseRow 7#3 ss s

/-- SIB_MOD0_IDX7_BS5_B13: R223. When REX.b == 1. -/
def execSibMod0Idx7Bs5B13 (ss : BitVec 2) (s : State) : Result :=
  sibBaseRow .m0 7#3 5#3 ss s

/-- SIB_MOD0_IDX7_BS6: R223. -/
def execSibMod0Idx7Bs6 (ss : BitVec 2) (s : State) : Result :=
  sibBaseRow .m0 7#3 6#3 ss s

/-- SIB_MOD0_IDX7_BS7: R223. -/
def execSibMod0Idx7Bs7 (ss : BitVec 2) (s : State) : Result :=
  sibBaseRow .m0 7#3 7#3 ss s

/-- SIB_MOD1_IDX0_BS0: R224. -/
def execSibMod1Idx0Bs0 (ss : BitVec 2) (s : State) : Result :=
  sibBaseRow .m1 0#3 0#3 ss s

/-- SIB_MOD1_IDX0_BS1: R224. -/
def execSibMod1Idx0Bs1 (ss : BitVec 2) (s : State) : Result :=
  sibBaseRow .m1 0#3 1#3 ss s

/-- SIB_MOD1_IDX0_BS2: R224. -/
def execSibMod1Idx0Bs2 (ss : BitVec 2) (s : State) : Result :=
  sibBaseRow .m1 0#3 2#3 ss s

/-- SIB_MOD1_IDX0_BS3: R224. -/
def execSibMod1Idx0Bs3 (ss : BitVec 2) (s : State) : Result :=
  sibBaseRow .m1 0#3 3#3 ss s

/-- SIB_MOD1_IDX0_BS4: R224. -/
def execSibMod1Idx0Bs4 (ss : BitVec 2) (s : State) : Result :=
  sibBaseRow .m1 0#3 4#3 ss s

/-- SIB_MOD1_IDX0_BS5_B5: R227. When REX.b == 0. -/
def execSibMod1Idx0Bs5B5 (ss : BitVec 2) (s : State) : Result :=
  sibBase5Row .m1 0#3 ss s

/-- SIB_MOD1_IDX0_BS5_B13: R224. When REX.b == 1. -/
def execSibMod1Idx0Bs5B13 (ss : BitVec 2) (s : State) : Result :=
  sibBaseRow .m1 0#3 5#3 ss s

/-- SIB_MOD1_IDX0_BS6: R224. -/
def execSibMod1Idx0Bs6 (ss : BitVec 2) (s : State) : Result :=
  sibBaseRow .m1 0#3 6#3 ss s

/-- SIB_MOD1_IDX0_BS7: R224. -/
def execSibMod1Idx0Bs7 (ss : BitVec 2) (s : State) : Result :=
  sibBaseRow .m1 0#3 7#3 ss s

/-- SIB_MOD1_IDX1_BS0: R224. -/
def execSibMod1Idx1Bs0 (ss : BitVec 2) (s : State) : Result :=
  sibBaseRow .m1 1#3 0#3 ss s

/-- SIB_MOD1_IDX1_BS1: R224. -/
def execSibMod1Idx1Bs1 (ss : BitVec 2) (s : State) : Result :=
  sibBaseRow .m1 1#3 1#3 ss s

/-- SIB_MOD1_IDX1_BS2: R224. -/
def execSibMod1Idx1Bs2 (ss : BitVec 2) (s : State) : Result :=
  sibBaseRow .m1 1#3 2#3 ss s

/-- SIB_MOD1_IDX1_BS3: R224. -/
def execSibMod1Idx1Bs3 (ss : BitVec 2) (s : State) : Result :=
  sibBaseRow .m1 1#3 3#3 ss s

/-- SIB_MOD1_IDX1_BS4: R224. -/
def execSibMod1Idx1Bs4 (ss : BitVec 2) (s : State) : Result :=
  sibBaseRow .m1 1#3 4#3 ss s

/-- SIB_MOD1_IDX1_BS5_B5: R227. When REX.b == 0. -/
def execSibMod1Idx1Bs5B5 (ss : BitVec 2) (s : State) : Result :=
  sibBase5Row .m1 1#3 ss s

/-- SIB_MOD1_IDX1_BS5_B13: R224. When REX.b == 1. -/
def execSibMod1Idx1Bs5B13 (ss : BitVec 2) (s : State) : Result :=
  sibBaseRow .m1 1#3 5#3 ss s

/-- SIB_MOD1_IDX1_BS6: R224. -/
def execSibMod1Idx1Bs6 (ss : BitVec 2) (s : State) : Result :=
  sibBaseRow .m1 1#3 6#3 ss s

/-- SIB_MOD1_IDX1_BS7: R224. -/
def execSibMod1Idx1Bs7 (ss : BitVec 2) (s : State) : Result :=
  sibBaseRow .m1 1#3 7#3 ss s

/-- SIB_MOD1_IDX2_BS0: R224. -/
def execSibMod1Idx2Bs0 (ss : BitVec 2) (s : State) : Result :=
  sibBaseRow .m1 2#3 0#3 ss s

/-- SIB_MOD1_IDX2_BS1: R224. -/
def execSibMod1Idx2Bs1 (ss : BitVec 2) (s : State) : Result :=
  sibBaseRow .m1 2#3 1#3 ss s

/-- SIB_MOD1_IDX2_BS2: R224. -/
def execSibMod1Idx2Bs2 (ss : BitVec 2) (s : State) : Result :=
  sibBaseRow .m1 2#3 2#3 ss s

/-- SIB_MOD1_IDX2_BS3: R224. -/
def execSibMod1Idx2Bs3 (ss : BitVec 2) (s : State) : Result :=
  sibBaseRow .m1 2#3 3#3 ss s

/-- SIB_MOD1_IDX2_BS4: R224. -/
def execSibMod1Idx2Bs4 (ss : BitVec 2) (s : State) : Result :=
  sibBaseRow .m1 2#3 4#3 ss s

/-- SIB_MOD1_IDX2_BS5_B5: R227. When REX.b == 0. -/
def execSibMod1Idx2Bs5B5 (ss : BitVec 2) (s : State) : Result :=
  sibBase5Row .m1 2#3 ss s

/-- SIB_MOD1_IDX2_BS5_B13: R224. When REX.b == 1. -/
def execSibMod1Idx2Bs5B13 (ss : BitVec 2) (s : State) : Result :=
  sibBaseRow .m1 2#3 5#3 ss s

/-- SIB_MOD1_IDX2_BS6: R224. -/
def execSibMod1Idx2Bs6 (ss : BitVec 2) (s : State) : Result :=
  sibBaseRow .m1 2#3 6#3 ss s

/-- SIB_MOD1_IDX2_BS7: R224. -/
def execSibMod1Idx2Bs7 (ss : BitVec 2) (s : State) : Result :=
  sibBaseRow .m1 2#3 7#3 ss s

/-- SIB_MOD1_IDX3_BS0: R224. -/
def execSibMod1Idx3Bs0 (ss : BitVec 2) (s : State) : Result :=
  sibBaseRow .m1 3#3 0#3 ss s

/-- SIB_MOD1_IDX3_BS1: R224. -/
def execSibMod1Idx3Bs1 (ss : BitVec 2) (s : State) : Result :=
  sibBaseRow .m1 3#3 1#3 ss s

/-- SIB_MOD1_IDX3_BS2: R224. -/
def execSibMod1Idx3Bs2 (ss : BitVec 2) (s : State) : Result :=
  sibBaseRow .m1 3#3 2#3 ss s

/-- SIB_MOD1_IDX3_BS3: R224. -/
def execSibMod1Idx3Bs3 (ss : BitVec 2) (s : State) : Result :=
  sibBaseRow .m1 3#3 3#3 ss s

/-- SIB_MOD1_IDX3_BS4: R224. -/
def execSibMod1Idx3Bs4 (ss : BitVec 2) (s : State) : Result :=
  sibBaseRow .m1 3#3 4#3 ss s

/-- SIB_MOD1_IDX3_BS5_B5: R227. When REX.b == 0. -/
def execSibMod1Idx3Bs5B5 (ss : BitVec 2) (s : State) : Result :=
  sibBase5Row .m1 3#3 ss s

/-- SIB_MOD1_IDX3_BS5_B13: R224. When REX.b == 1. -/
def execSibMod1Idx3Bs5B13 (ss : BitVec 2) (s : State) : Result :=
  sibBaseRow .m1 3#3 5#3 ss s

/-- SIB_MOD1_IDX3_BS6: R224. -/
def execSibMod1Idx3Bs6 (ss : BitVec 2) (s : State) : Result :=
  sibBaseRow .m1 3#3 6#3 ss s

/-- SIB_MOD1_IDX3_BS7: R224. -/
def execSibMod1Idx3Bs7 (ss : BitVec 2) (s : State) : Result :=
  sibBaseRow .m1 3#3 7#3 ss s

/-- SIB_MOD1_IDX4_BS0: R224. -/
def execSibMod1Idx4Bs0 (ss : BitVec 2) (s : State) : Result :=
  sibBaseRow .m1 4#3 0#3 ss s

/-- SIB_MOD1_IDX4_BS1: R224. -/
def execSibMod1Idx4Bs1 (ss : BitVec 2) (s : State) : Result :=
  sibBaseRow .m1 4#3 1#3 ss s

/-- SIB_MOD1_IDX4_BS2: R224. -/
def execSibMod1Idx4Bs2 (ss : BitVec 2) (s : State) : Result :=
  sibBaseRow .m1 4#3 2#3 ss s

/-- SIB_MOD1_IDX4_BS3: R224. -/
def execSibMod1Idx4Bs3 (ss : BitVec 2) (s : State) : Result :=
  sibBaseRow .m1 4#3 3#3 ss s

/-- SIB_MOD1_IDX4_BS4: R224. -/
def execSibMod1Idx4Bs4 (ss : BitVec 2) (s : State) : Result :=
  sibBaseRow .m1 4#3 4#3 ss s

/-- SIB_MOD1_IDX4_BS5_B5: R227. When REX.b == 0. -/
def execSibMod1Idx4Bs5B5 (ss : BitVec 2) (s : State) : Result :=
  sibBase5Row .m1 4#3 ss s

/-- SIB_MOD1_IDX4_BS5_B13: R224. When REX.b == 1. -/
def execSibMod1Idx4Bs5B13 (ss : BitVec 2) (s : State) : Result :=
  sibBaseRow .m1 4#3 5#3 ss s

/-- SIB_MOD1_IDX4_BS6: R224. -/
def execSibMod1Idx4Bs6 (ss : BitVec 2) (s : State) : Result :=
  sibBaseRow .m1 4#3 6#3 ss s

/-- SIB_MOD1_IDX4_BS7: R224. -/
def execSibMod1Idx4Bs7 (ss : BitVec 2) (s : State) : Result :=
  sibBaseRow .m1 4#3 7#3 ss s

/-- SIB_MOD1_IDX5_BS0: R224. -/
def execSibMod1Idx5Bs0 (ss : BitVec 2) (s : State) : Result :=
  sibBaseRow .m1 5#3 0#3 ss s

/-- SIB_MOD1_IDX5_BS1: R224. -/
def execSibMod1Idx5Bs1 (ss : BitVec 2) (s : State) : Result :=
  sibBaseRow .m1 5#3 1#3 ss s

/-- SIB_MOD1_IDX5_BS2: R224. -/
def execSibMod1Idx5Bs2 (ss : BitVec 2) (s : State) : Result :=
  sibBaseRow .m1 5#3 2#3 ss s

/-- SIB_MOD1_IDX5_BS3: R224. -/
def execSibMod1Idx5Bs3 (ss : BitVec 2) (s : State) : Result :=
  sibBaseRow .m1 5#3 3#3 ss s

/-- SIB_MOD1_IDX5_BS4: R224. -/
def execSibMod1Idx5Bs4 (ss : BitVec 2) (s : State) : Result :=
  sibBaseRow .m1 5#3 4#3 ss s

/-- SIB_MOD1_IDX5_BS5_B5: R227. When REX.b == 0. -/
def execSibMod1Idx5Bs5B5 (ss : BitVec 2) (s : State) : Result :=
  sibBase5Row .m1 5#3 ss s

/-- SIB_MOD1_IDX5_BS5_B13: R224. When REX.b == 1. -/
def execSibMod1Idx5Bs5B13 (ss : BitVec 2) (s : State) : Result :=
  sibBaseRow .m1 5#3 5#3 ss s

/-- SIB_MOD1_IDX5_BS6: R224. -/
def execSibMod1Idx5Bs6 (ss : BitVec 2) (s : State) : Result :=
  sibBaseRow .m1 5#3 6#3 ss s

/-- SIB_MOD1_IDX5_BS7: R224. -/
def execSibMod1Idx5Bs7 (ss : BitVec 2) (s : State) : Result :=
  sibBaseRow .m1 5#3 7#3 ss s

/-- SIB_MOD1_IDX6_BS0: R224. -/
def execSibMod1Idx6Bs0 (ss : BitVec 2) (s : State) : Result :=
  sibBaseRow .m1 6#3 0#3 ss s

/-- SIB_MOD1_IDX6_BS1: R224. -/
def execSibMod1Idx6Bs1 (ss : BitVec 2) (s : State) : Result :=
  sibBaseRow .m1 6#3 1#3 ss s

/-- SIB_MOD1_IDX6_BS2: R224. -/
def execSibMod1Idx6Bs2 (ss : BitVec 2) (s : State) : Result :=
  sibBaseRow .m1 6#3 2#3 ss s

/-- SIB_MOD1_IDX6_BS3: R224. -/
def execSibMod1Idx6Bs3 (ss : BitVec 2) (s : State) : Result :=
  sibBaseRow .m1 6#3 3#3 ss s

/-- SIB_MOD1_IDX6_BS4: R224. -/
def execSibMod1Idx6Bs4 (ss : BitVec 2) (s : State) : Result :=
  sibBaseRow .m1 6#3 4#3 ss s

/-- SIB_MOD1_IDX6_BS5_B5: R227. When REX.b == 0. -/
def execSibMod1Idx6Bs5B5 (ss : BitVec 2) (s : State) : Result :=
  sibBase5Row .m1 6#3 ss s

/-- SIB_MOD1_IDX6_BS5_B13: R224. When REX.b == 1. -/
def execSibMod1Idx6Bs5B13 (ss : BitVec 2) (s : State) : Result :=
  sibBaseRow .m1 6#3 5#3 ss s

/-- SIB_MOD1_IDX6_BS6: R224. -/
def execSibMod1Idx6Bs6 (ss : BitVec 2) (s : State) : Result :=
  sibBaseRow .m1 6#3 6#3 ss s

/-- SIB_MOD1_IDX6_BS7: R224. -/
def execSibMod1Idx6Bs7 (ss : BitVec 2) (s : State) : Result :=
  sibBaseRow .m1 6#3 7#3 ss s

/-- SIB_MOD1_IDX7_BS0: R224. -/
def execSibMod1Idx7Bs0 (ss : BitVec 2) (s : State) : Result :=
  sibBaseRow .m1 7#3 0#3 ss s

/-- SIB_MOD1_IDX7_BS1: R224. -/
def execSibMod1Idx7Bs1 (ss : BitVec 2) (s : State) : Result :=
  sibBaseRow .m1 7#3 1#3 ss s

/-- SIB_MOD1_IDX7_BS2: R224. -/
def execSibMod1Idx7Bs2 (ss : BitVec 2) (s : State) : Result :=
  sibBaseRow .m1 7#3 2#3 ss s

/-- SIB_MOD1_IDX7_BS3: R224. -/
def execSibMod1Idx7Bs3 (ss : BitVec 2) (s : State) : Result :=
  sibBaseRow .m1 7#3 3#3 ss s

/-- SIB_MOD1_IDX7_BS4: R224. -/
def execSibMod1Idx7Bs4 (ss : BitVec 2) (s : State) : Result :=
  sibBaseRow .m1 7#3 4#3 ss s

/-- SIB_MOD1_IDX7_BS5_B5: R227. When REX.b == 0. -/
def execSibMod1Idx7Bs5B5 (ss : BitVec 2) (s : State) : Result :=
  sibBase5Row .m1 7#3 ss s

/-- SIB_MOD1_IDX7_BS5_B13: R224. When REX.b == 1. -/
def execSibMod1Idx7Bs5B13 (ss : BitVec 2) (s : State) : Result :=
  sibBaseRow .m1 7#3 5#3 ss s

/-- SIB_MOD1_IDX7_BS6: R224. -/
def execSibMod1Idx7Bs6 (ss : BitVec 2) (s : State) : Result :=
  sibBaseRow .m1 7#3 6#3 ss s

/-- SIB_MOD1_IDX7_BS7: R224. -/
def execSibMod1Idx7Bs7 (ss : BitVec 2) (s : State) : Result :=
  sibBaseRow .m1 7#3 7#3 ss s

/-- SIB_MOD2_IDX0_BS0: R224. -/
def execSibMod2Idx0Bs0 (ss : BitVec 2) (s : State) : Result :=
  sibBaseRow .m2 0#3 0#3 ss s

/-- SIB_MOD2_IDX0_BS1: R224. -/
def execSibMod2Idx0Bs1 (ss : BitVec 2) (s : State) : Result :=
  sibBaseRow .m2 0#3 1#3 ss s

/-- SIB_MOD2_IDX0_BS2: R224. -/
def execSibMod2Idx0Bs2 (ss : BitVec 2) (s : State) : Result :=
  sibBaseRow .m2 0#3 2#3 ss s

/-- SIB_MOD2_IDX0_BS3: R224. -/
def execSibMod2Idx0Bs3 (ss : BitVec 2) (s : State) : Result :=
  sibBaseRow .m2 0#3 3#3 ss s

/-- SIB_MOD2_IDX0_BS4: R224. -/
def execSibMod2Idx0Bs4 (ss : BitVec 2) (s : State) : Result :=
  sibBaseRow .m2 0#3 4#3 ss s

/-- SIB_MOD2_IDX0_BS5_B5: R227. When REX.b == 0. -/
def execSibMod2Idx0Bs5B5 (ss : BitVec 2) (s : State) : Result :=
  sibBase5Row .m2 0#3 ss s

/-- SIB_MOD2_IDX0_BS5_B13: R224. When REX.b == 1. -/
def execSibMod2Idx0Bs5B13 (ss : BitVec 2) (s : State) : Result :=
  sibBaseRow .m2 0#3 5#3 ss s

/-- SIB_MOD2_IDX0_BS6: R224. -/
def execSibMod2Idx0Bs6 (ss : BitVec 2) (s : State) : Result :=
  sibBaseRow .m2 0#3 6#3 ss s

/-- SIB_MOD2_IDX0_BS7: R224. -/
def execSibMod2Idx0Bs7 (ss : BitVec 2) (s : State) : Result :=
  sibBaseRow .m2 0#3 7#3 ss s

/-- SIB_MOD2_IDX1_BS0: R224. -/
def execSibMod2Idx1Bs0 (ss : BitVec 2) (s : State) : Result :=
  sibBaseRow .m2 1#3 0#3 ss s

/-- SIB_MOD2_IDX1_BS1: R224. -/
def execSibMod2Idx1Bs1 (ss : BitVec 2) (s : State) : Result :=
  sibBaseRow .m2 1#3 1#3 ss s

/-- SIB_MOD2_IDX1_BS2: R224. -/
def execSibMod2Idx1Bs2 (ss : BitVec 2) (s : State) : Result :=
  sibBaseRow .m2 1#3 2#3 ss s

/-- SIB_MOD2_IDX1_BS3: R224. -/
def execSibMod2Idx1Bs3 (ss : BitVec 2) (s : State) : Result :=
  sibBaseRow .m2 1#3 3#3 ss s

/-- SIB_MOD2_IDX1_BS4: R224. -/
def execSibMod2Idx1Bs4 (ss : BitVec 2) (s : State) : Result :=
  sibBaseRow .m2 1#3 4#3 ss s

/-- SIB_MOD2_IDX1_BS5_B5: R227. When REX.b == 0. -/
def execSibMod2Idx1Bs5B5 (ss : BitVec 2) (s : State) : Result :=
  sibBase5Row .m2 1#3 ss s

/-- SIB_MOD2_IDX1_BS5_B13: R224. When REX.b == 1. -/
def execSibMod2Idx1Bs5B13 (ss : BitVec 2) (s : State) : Result :=
  sibBaseRow .m2 1#3 5#3 ss s

/-- SIB_MOD2_IDX1_BS6: R224. -/
def execSibMod2Idx1Bs6 (ss : BitVec 2) (s : State) : Result :=
  sibBaseRow .m2 1#3 6#3 ss s

/-- SIB_MOD2_IDX1_BS7: R224. -/
def execSibMod2Idx1Bs7 (ss : BitVec 2) (s : State) : Result :=
  sibBaseRow .m2 1#3 7#3 ss s

/-- SIB_MOD2_IDX2_BS0: R224. -/
def execSibMod2Idx2Bs0 (ss : BitVec 2) (s : State) : Result :=
  sibBaseRow .m2 2#3 0#3 ss s

/-- SIB_MOD2_IDX2_BS1: R224. -/
def execSibMod2Idx2Bs1 (ss : BitVec 2) (s : State) : Result :=
  sibBaseRow .m2 2#3 1#3 ss s

/-- SIB_MOD2_IDX2_BS2: R224. -/
def execSibMod2Idx2Bs2 (ss : BitVec 2) (s : State) : Result :=
  sibBaseRow .m2 2#3 2#3 ss s

/-- SIB_MOD2_IDX2_BS3: R224. -/
def execSibMod2Idx2Bs3 (ss : BitVec 2) (s : State) : Result :=
  sibBaseRow .m2 2#3 3#3 ss s

/-- SIB_MOD2_IDX2_BS4: R224. -/
def execSibMod2Idx2Bs4 (ss : BitVec 2) (s : State) : Result :=
  sibBaseRow .m2 2#3 4#3 ss s

/-- SIB_MOD2_IDX2_BS5_B5: R227. When REX.b == 0. -/
def execSibMod2Idx2Bs5B5 (ss : BitVec 2) (s : State) : Result :=
  sibBase5Row .m2 2#3 ss s

/-- SIB_MOD2_IDX2_BS5_B13: R224. When REX.b == 1. -/
def execSibMod2Idx2Bs5B13 (ss : BitVec 2) (s : State) : Result :=
  sibBaseRow .m2 2#3 5#3 ss s

/-- SIB_MOD2_IDX2_BS6: R224. -/
def execSibMod2Idx2Bs6 (ss : BitVec 2) (s : State) : Result :=
  sibBaseRow .m2 2#3 6#3 ss s

/-- SIB_MOD2_IDX2_BS7: R224. -/
def execSibMod2Idx2Bs7 (ss : BitVec 2) (s : State) : Result :=
  sibBaseRow .m2 2#3 7#3 ss s

/-- SIB_MOD2_IDX3_BS0: R224. -/
def execSibMod2Idx3Bs0 (ss : BitVec 2) (s : State) : Result :=
  sibBaseRow .m2 3#3 0#3 ss s

/-- SIB_MOD2_IDX3_BS1: R224. -/
def execSibMod2Idx3Bs1 (ss : BitVec 2) (s : State) : Result :=
  sibBaseRow .m2 3#3 1#3 ss s

/-- SIB_MOD2_IDX3_BS2: R224. -/
def execSibMod2Idx3Bs2 (ss : BitVec 2) (s : State) : Result :=
  sibBaseRow .m2 3#3 2#3 ss s

/-- SIB_MOD2_IDX3_BS3: R224. -/
def execSibMod2Idx3Bs3 (ss : BitVec 2) (s : State) : Result :=
  sibBaseRow .m2 3#3 3#3 ss s

/-- SIB_MOD2_IDX3_BS4: R224. -/
def execSibMod2Idx3Bs4 (ss : BitVec 2) (s : State) : Result :=
  sibBaseRow .m2 3#3 4#3 ss s

/-- SIB_MOD2_IDX3_BS5_B5: R227. When REX.b == 0. -/
def execSibMod2Idx3Bs5B5 (ss : BitVec 2) (s : State) : Result :=
  sibBase5Row .m2 3#3 ss s

/-- SIB_MOD2_IDX3_BS5_B13: R224. When REX.b == 1. -/
def execSibMod2Idx3Bs5B13 (ss : BitVec 2) (s : State) : Result :=
  sibBaseRow .m2 3#3 5#3 ss s

/-- SIB_MOD2_IDX3_BS6: R224. -/
def execSibMod2Idx3Bs6 (ss : BitVec 2) (s : State) : Result :=
  sibBaseRow .m2 3#3 6#3 ss s

/-- SIB_MOD2_IDX3_BS7: R224. -/
def execSibMod2Idx3Bs7 (ss : BitVec 2) (s : State) : Result :=
  sibBaseRow .m2 3#3 7#3 ss s

/-- SIB_MOD2_IDX4_BS0: R224. -/
def execSibMod2Idx4Bs0 (ss : BitVec 2) (s : State) : Result :=
  sibBaseRow .m2 4#3 0#3 ss s

/-- SIB_MOD2_IDX4_BS1: R224. -/
def execSibMod2Idx4Bs1 (ss : BitVec 2) (s : State) : Result :=
  sibBaseRow .m2 4#3 1#3 ss s

/-- SIB_MOD2_IDX4_BS2: R224. -/
def execSibMod2Idx4Bs2 (ss : BitVec 2) (s : State) : Result :=
  sibBaseRow .m2 4#3 2#3 ss s

/-- SIB_MOD2_IDX4_BS3: R224. -/
def execSibMod2Idx4Bs3 (ss : BitVec 2) (s : State) : Result :=
  sibBaseRow .m2 4#3 3#3 ss s

/-- SIB_MOD2_IDX4_BS4: R224. -/
def execSibMod2Idx4Bs4 (ss : BitVec 2) (s : State) : Result :=
  sibBaseRow .m2 4#3 4#3 ss s

/-- SIB_MOD2_IDX4_BS5_B5: R227. When REX.b == 0. -/
def execSibMod2Idx4Bs5B5 (ss : BitVec 2) (s : State) : Result :=
  sibBase5Row .m2 4#3 ss s

/-- SIB_MOD2_IDX4_BS5_B13: R224. When REX.b == 1. -/
def execSibMod2Idx4Bs5B13 (ss : BitVec 2) (s : State) : Result :=
  sibBaseRow .m2 4#3 5#3 ss s

/-- SIB_MOD2_IDX4_BS6: R224. -/
def execSibMod2Idx4Bs6 (ss : BitVec 2) (s : State) : Result :=
  sibBaseRow .m2 4#3 6#3 ss s

/-- SIB_MOD2_IDX4_BS7: R224. -/
def execSibMod2Idx4Bs7 (ss : BitVec 2) (s : State) : Result :=
  sibBaseRow .m2 4#3 7#3 ss s

/-- SIB_MOD2_IDX5_BS0: R224. -/
def execSibMod2Idx5Bs0 (ss : BitVec 2) (s : State) : Result :=
  sibBaseRow .m2 5#3 0#3 ss s

/-- SIB_MOD2_IDX5_BS1: R224. -/
def execSibMod2Idx5Bs1 (ss : BitVec 2) (s : State) : Result :=
  sibBaseRow .m2 5#3 1#3 ss s

/-- SIB_MOD2_IDX5_BS2: R224. -/
def execSibMod2Idx5Bs2 (ss : BitVec 2) (s : State) : Result :=
  sibBaseRow .m2 5#3 2#3 ss s

/-- SIB_MOD2_IDX5_BS3: R224. -/
def execSibMod2Idx5Bs3 (ss : BitVec 2) (s : State) : Result :=
  sibBaseRow .m2 5#3 3#3 ss s

/-- SIB_MOD2_IDX5_BS4: R224. -/
def execSibMod2Idx5Bs4 (ss : BitVec 2) (s : State) : Result :=
  sibBaseRow .m2 5#3 4#3 ss s

/-- SIB_MOD2_IDX5_BS5_B5: R227. When REX.b == 0. -/
def execSibMod2Idx5Bs5B5 (ss : BitVec 2) (s : State) : Result :=
  sibBase5Row .m2 5#3 ss s

/-- SIB_MOD2_IDX5_BS5_B13: R224. When REX.b == 1. -/
def execSibMod2Idx5Bs5B13 (ss : BitVec 2) (s : State) : Result :=
  sibBaseRow .m2 5#3 5#3 ss s

/-- SIB_MOD2_IDX5_BS6: R224. -/
def execSibMod2Idx5Bs6 (ss : BitVec 2) (s : State) : Result :=
  sibBaseRow .m2 5#3 6#3 ss s

/-- SIB_MOD2_IDX5_BS7: R224. -/
def execSibMod2Idx5Bs7 (ss : BitVec 2) (s : State) : Result :=
  sibBaseRow .m2 5#3 7#3 ss s

/-- SIB_MOD2_IDX6_BS0: R224. -/
def execSibMod2Idx6Bs0 (ss : BitVec 2) (s : State) : Result :=
  sibBaseRow .m2 6#3 0#3 ss s

/-- SIB_MOD2_IDX6_BS1: R224. -/
def execSibMod2Idx6Bs1 (ss : BitVec 2) (s : State) : Result :=
  sibBaseRow .m2 6#3 1#3 ss s

/-- SIB_MOD2_IDX6_BS2: R224. -/
def execSibMod2Idx6Bs2 (ss : BitVec 2) (s : State) : Result :=
  sibBaseRow .m2 6#3 2#3 ss s

/-- SIB_MOD2_IDX6_BS3: R224. -/
def execSibMod2Idx6Bs3 (ss : BitVec 2) (s : State) : Result :=
  sibBaseRow .m2 6#3 3#3 ss s

/-- SIB_MOD2_IDX6_BS4: R224. -/
def execSibMod2Idx6Bs4 (ss : BitVec 2) (s : State) : Result :=
  sibBaseRow .m2 6#3 4#3 ss s

/-- SIB_MOD2_IDX6_BS5_B5: R227. When REX.b == 0. -/
def execSibMod2Idx6Bs5B5 (ss : BitVec 2) (s : State) : Result :=
  sibBase5Row .m2 6#3 ss s

/-- SIB_MOD2_IDX6_BS5_B13: R224. When REX.b == 1. -/
def execSibMod2Idx6Bs5B13 (ss : BitVec 2) (s : State) : Result :=
  sibBaseRow .m2 6#3 5#3 ss s

/-- SIB_MOD2_IDX6_BS6: R224. -/
def execSibMod2Idx6Bs6 (ss : BitVec 2) (s : State) : Result :=
  sibBaseRow .m2 6#3 6#3 ss s

/-- SIB_MOD2_IDX6_BS7: R224. -/
def execSibMod2Idx6Bs7 (ss : BitVec 2) (s : State) : Result :=
  sibBaseRow .m2 6#3 7#3 ss s

/-- SIB_MOD2_IDX7_BS0: R224. -/
def execSibMod2Idx7Bs0 (ss : BitVec 2) (s : State) : Result :=
  sibBaseRow .m2 7#3 0#3 ss s

/-- SIB_MOD2_IDX7_BS1: R224. -/
def execSibMod2Idx7Bs1 (ss : BitVec 2) (s : State) : Result :=
  sibBaseRow .m2 7#3 1#3 ss s

/-- SIB_MOD2_IDX7_BS2: R224. -/
def execSibMod2Idx7Bs2 (ss : BitVec 2) (s : State) : Result :=
  sibBaseRow .m2 7#3 2#3 ss s

/-- SIB_MOD2_IDX7_BS3: R224. -/
def execSibMod2Idx7Bs3 (ss : BitVec 2) (s : State) : Result :=
  sibBaseRow .m2 7#3 3#3 ss s

/-- SIB_MOD2_IDX7_BS4: R224. -/
def execSibMod2Idx7Bs4 (ss : BitVec 2) (s : State) : Result :=
  sibBaseRow .m2 7#3 4#3 ss s

/-- SIB_MOD2_IDX7_BS5_B5: R227. When REX.b == 0. -/
def execSibMod2Idx7Bs5B5 (ss : BitVec 2) (s : State) : Result :=
  sibBase5Row .m2 7#3 ss s

/-- SIB_MOD2_IDX7_BS5_B13: R224. When REX.b == 1. -/
def execSibMod2Idx7Bs5B13 (ss : BitVec 2) (s : State) : Result :=
  sibBaseRow .m2 7#3 5#3 ss s

/-- SIB_MOD2_IDX7_BS6: R224. -/
def execSibMod2Idx7Bs6 (ss : BitVec 2) (s : State) : Result :=
  sibBaseRow .m2 7#3 6#3 ss s

/-- SIB_MOD2_IDX7_BS7: R224. -/
def execSibMod2Idx7Bs7 (ss : BitVec 2) (s : State) : Result :=
  sibBaseRow .m2 7#3 7#3 ss s

end Sys2Proof.Machine
end

