-- ==== Sys2Proof/Machine/Dispatch.lean ====
section
/-! DEFINITION. exec: one arm per constructor of Instr, each one call of its meaning. -/

namespace Sys2Proof.Machine

def exec (i : Instr) (s : State) : Host.Outcome State Fault Refusal :=
  match i with
  | .pfxLock => Sys2Proof.Machine.execPfxLock s
  | .pfxCs => Sys2Proof.Machine.execPfxCs s
  | .pfxSs => Sys2Proof.Machine.execPfxSs s
  | .pfxDs => Sys2Proof.Machine.execPfxDs s
  | .pfxEs => Sys2Proof.Machine.execPfxEs s
  | .pfxFs => Sys2Proof.Machine.execPfxFs s
  | .pfxGs => Sys2Proof.Machine.execPfxGs s
  | .pfxRepne => Sys2Proof.Machine.execPfxRepne s
  | .pfxRep => Sys2Proof.Machine.execPfxRep s
  | .pfxHintNotTaken => Sys2Proof.Machine.execPfxHintNotTaken s
  | .pfxHintTaken => Sys2Proof.Machine.execPfxHintTaken s
  | .pfxOpsize => Sys2Proof.Machine.execPfxOpsize s
  | .pfxAddrsize => Sys2Proof.Machine.execPfxAddrsize s
  | .rex w r x b => Sys2Proof.Machine.execRex w r x b s
  | .opcOneByte o1 => Sys2Proof.Machine.execOpcOneByte o1 s
  | .escTwoByte o2 => Sys2Proof.Machine.execEscTwoByte o2 s
  | .escThreeByteA o3 => Sys2Proof.Machine.execEscThreeByteA o3 s
  | .escThreeByteB o3 => Sys2Proof.Machine.execEscThreeByteB o3 s
  | .t1C3 => Sys2Proof.Machine.execT1C3 s
  | .t189 => Sys2Proof.Machine.execT189 s
  | .modrmReg mod reg rm => Sys2Proof.Machine.execModrmReg mod reg rm s
  | .modrmRegdirectInvalid _ => Sys2Proof.Machine.execModrmRegdirectInvalid s
  | .modrmRegdirect rm => Sys2Proof.Machine.execModrmRegdirect rm s
  | .modrmSibFollowsMod0 => Sys2Proof.Machine.execModrmSibFollowsMod0 s
  | .modrmSibFollowsMod1 => Sys2Proof.Machine.execModrmSibFollowsMod1 s
  | .modrmSibFollowsMod2 => Sys2Proof.Machine.execModrmSibFollowsMod2 s
  | .modrmMemMod0Rm0Rexx => Sys2Proof.Machine.execModrmMemMod0Rm0Rexx s
  | .modrmMemMod0Rm0 => Sys2Proof.Machine.execModrmMemMod0Rm0 s
  | .modrmMemMod0Rm1Rexx => Sys2Proof.Machine.execModrmMemMod0Rm1Rexx s
  | .modrmMemMod0Rm1 => Sys2Proof.Machine.execModrmMemMod0Rm1 s
  | .modrmMemMod0Rm2Rexx => Sys2Proof.Machine.execModrmMemMod0Rm2Rexx s
  | .modrmMemMod0Rm2 => Sys2Proof.Machine.execModrmMemMod0Rm2 s
  | .modrmMemMod0Rm3Rexx => Sys2Proof.Machine.execModrmMemMod0Rm3Rexx s
  | .modrmMemMod0Rm3 => Sys2Proof.Machine.execModrmMemMod0Rm3 s
  | .modrmMemMod0Rm5Rexx => Sys2Proof.Machine.execModrmMemMod0Rm5Rexx s
  | .modrmMemMod0Rm5 => Sys2Proof.Machine.execModrmMemMod0Rm5 s
  | .modrmMemMod0Rm6Rexx => Sys2Proof.Machine.execModrmMemMod0Rm6Rexx s
  | .modrmMemMod0Rm6 => Sys2Proof.Machine.execModrmMemMod0Rm6 s
  | .modrmMemMod0Rm7Rexx => Sys2Proof.Machine.execModrmMemMod0Rm7Rexx s
  | .modrmMemMod0Rm7 => Sys2Proof.Machine.execModrmMemMod0Rm7 s
  | .modrmMemMod1Rm0Rexx => Sys2Proof.Machine.execModrmMemMod1Rm0Rexx s
  | .modrmMemMod1Rm0 => Sys2Proof.Machine.execModrmMemMod1Rm0 s
  | .modrmMemMod1Rm1Rexx => Sys2Proof.Machine.execModrmMemMod1Rm1Rexx s
  | .modrmMemMod1Rm1 => Sys2Proof.Machine.execModrmMemMod1Rm1 s
  | .modrmMemMod1Rm2Rexx => Sys2Proof.Machine.execModrmMemMod1Rm2Rexx s
  | .modrmMemMod1Rm2 => Sys2Proof.Machine.execModrmMemMod1Rm2 s
  | .modrmMemMod1Rm3Rexx => Sys2Proof.Machine.execModrmMemMod1Rm3Rexx s
  | .modrmMemMod1Rm3 => Sys2Proof.Machine.execModrmMemMod1Rm3 s
  | .modrmMemMod1Rm5Rexx => Sys2Proof.Machine.execModrmMemMod1Rm5Rexx s
  | .modrmMemMod1Rm5 => Sys2Proof.Machine.execModrmMemMod1Rm5 s
  | .modrmMemMod1Rm6Rexx => Sys2Proof.Machine.execModrmMemMod1Rm6Rexx s
  | .modrmMemMod1Rm6 => Sys2Proof.Machine.execModrmMemMod1Rm6 s
  | .modrmMemMod1Rm7Rexx => Sys2Proof.Machine.execModrmMemMod1Rm7Rexx s
  | .modrmMemMod1Rm7 => Sys2Proof.Machine.execModrmMemMod1Rm7 s
  | .modrmMemMod2Rm0Rexx => Sys2Proof.Machine.execModrmMemMod2Rm0Rexx s
  | .modrmMemMod2Rm0 => Sys2Proof.Machine.execModrmMemMod2Rm0 s
  | .modrmMemMod2Rm1Rexx => Sys2Proof.Machine.execModrmMemMod2Rm1Rexx s
  | .modrmMemMod2Rm1 => Sys2Proof.Machine.execModrmMemMod2Rm1 s
  | .modrmMemMod2Rm2Rexx => Sys2Proof.Machine.execModrmMemMod2Rm2Rexx s
  | .modrmMemMod2Rm2 => Sys2Proof.Machine.execModrmMemMod2Rm2 s
  | .modrmMemMod2Rm3Rexx => Sys2Proof.Machine.execModrmMemMod2Rm3Rexx s
  | .modrmMemMod2Rm3 => Sys2Proof.Machine.execModrmMemMod2Rm3 s
  | .modrmMemMod2Rm5Rexx => Sys2Proof.Machine.execModrmMemMod2Rm5Rexx s
  | .modrmMemMod2Rm5 => Sys2Proof.Machine.execModrmMemMod2Rm5 s
  | .modrmMemMod2Rm6Rexx => Sys2Proof.Machine.execModrmMemMod2Rm6Rexx s
  | .modrmMemMod2Rm6 => Sys2Proof.Machine.execModrmMemMod2Rm6 s
  | .modrmMemMod2Rm7Rexx => Sys2Proof.Machine.execModrmMemMod2Rm7Rexx s
  | .modrmMemMod2Rm7 => Sys2Proof.Machine.execModrmMemMod2Rm7 s
  | .sibMod0Idx0Bs0 ss => Sys2Proof.Machine.execSibMod0Idx0Bs0 ss s
  | .sibMod0Idx0Bs1 ss => Sys2Proof.Machine.execSibMod0Idx0Bs1 ss s
  | .sibMod0Idx0Bs2 ss => Sys2Proof.Machine.execSibMod0Idx0Bs2 ss s
  | .sibMod0Idx0Bs3 ss => Sys2Proof.Machine.execSibMod0Idx0Bs3 ss s
  | .sibMod0Idx0Bs4 ss => Sys2Proof.Machine.execSibMod0Idx0Bs4 ss s
  | .sibMod0Idx0Bs5B5 ss => Sys2Proof.Machine.execSibMod0Idx0Bs5B5 ss s
  | .sibMod0Idx0Bs5B13 ss => Sys2Proof.Machine.execSibMod0Idx0Bs5B13 ss s
  | .sibMod0Idx0Bs6 ss => Sys2Proof.Machine.execSibMod0Idx0Bs6 ss s
  | .sibMod0Idx0Bs7 ss => Sys2Proof.Machine.execSibMod0Idx0Bs7 ss s
  | .sibMod0Idx1Bs0 ss => Sys2Proof.Machine.execSibMod0Idx1Bs0 ss s
  | .sibMod0Idx1Bs1 ss => Sys2Proof.Machine.execSibMod0Idx1Bs1 ss s
  | .sibMod0Idx1Bs2 ss => Sys2Proof.Machine.execSibMod0Idx1Bs2 ss s
  | .sibMod0Idx1Bs3 ss => Sys2Proof.Machine.execSibMod0Idx1Bs3 ss s
  | .sibMod0Idx1Bs4 ss => Sys2Proof.Machine.execSibMod0Idx1Bs4 ss s
  | .sibMod0Idx1Bs5B5 ss => Sys2Proof.Machine.execSibMod0Idx1Bs5B5 ss s
  | .sibMod0Idx1Bs5B13 ss => Sys2Proof.Machine.execSibMod0Idx1Bs5B13 ss s
  | .sibMod0Idx1Bs6 ss => Sys2Proof.Machine.execSibMod0Idx1Bs6 ss s
  | .sibMod0Idx1Bs7 ss => Sys2Proof.Machine.execSibMod0Idx1Bs7 ss s
  | .sibMod0Idx2Bs0 ss => Sys2Proof.Machine.execSibMod0Idx2Bs0 ss s
  | .sibMod0Idx2Bs1 ss => Sys2Proof.Machine.execSibMod0Idx2Bs1 ss s
  | .sibMod0Idx2Bs2 ss => Sys2Proof.Machine.execSibMod0Idx2Bs2 ss s
  | .sibMod0Idx2Bs3 ss => Sys2Proof.Machine.execSibMod0Idx2Bs3 ss s
  | .sibMod0Idx2Bs4 ss => Sys2Proof.Machine.execSibMod0Idx2Bs4 ss s
  | .sibMod0Idx2Bs5B5 ss => Sys2Proof.Machine.execSibMod0Idx2Bs5B5 ss s
  | .sibMod0Idx2Bs5B13 ss => Sys2Proof.Machine.execSibMod0Idx2Bs5B13 ss s
  | .sibMod0Idx2Bs6 ss => Sys2Proof.Machine.execSibMod0Idx2Bs6 ss s
  | .sibMod0Idx2Bs7 ss => Sys2Proof.Machine.execSibMod0Idx2Bs7 ss s
  | .sibMod0Idx3Bs0 ss => Sys2Proof.Machine.execSibMod0Idx3Bs0 ss s
  | .sibMod0Idx3Bs1 ss => Sys2Proof.Machine.execSibMod0Idx3Bs1 ss s
  | .sibMod0Idx3Bs2 ss => Sys2Proof.Machine.execSibMod0Idx3Bs2 ss s
  | .sibMod0Idx3Bs3 ss => Sys2Proof.Machine.execSibMod0Idx3Bs3 ss s
  | .sibMod0Idx3Bs4 ss => Sys2Proof.Machine.execSibMod0Idx3Bs4 ss s
  | .sibMod0Idx3Bs5B5 ss => Sys2Proof.Machine.execSibMod0Idx3Bs5B5 ss s
  | .sibMod0Idx3Bs5B13 ss => Sys2Proof.Machine.execSibMod0Idx3Bs5B13 ss s
  | .sibMod0Idx3Bs6 ss => Sys2Proof.Machine.execSibMod0Idx3Bs6 ss s
  | .sibMod0Idx3Bs7 ss => Sys2Proof.Machine.execSibMod0Idx3Bs7 ss s
  | .sibMod0Idx4Bs0 ss => Sys2Proof.Machine.execSibMod0Idx4Bs0 ss s
  | .sibMod0Idx4Bs1 ss => Sys2Proof.Machine.execSibMod0Idx4Bs1 ss s
  | .sibMod0Idx4Bs2 ss => Sys2Proof.Machine.execSibMod0Idx4Bs2 ss s
  | .sibMod0Idx4Bs3 ss => Sys2Proof.Machine.execSibMod0Idx4Bs3 ss s
  | .sibMod0Idx4Bs4 ss => Sys2Proof.Machine.execSibMod0Idx4Bs4 ss s
  | .sibMod0Idx4Bs5B5 ss => Sys2Proof.Machine.execSibMod0Idx4Bs5B5 ss s
  | .sibMod0Idx4Bs5B13 ss => Sys2Proof.Machine.execSibMod0Idx4Bs5B13 ss s
  | .sibMod0Idx4Bs6 ss => Sys2Proof.Machine.execSibMod0Idx4Bs6 ss s
  | .sibMod0Idx4Bs7 ss => Sys2Proof.Machine.execSibMod0Idx4Bs7 ss s
  | .sibMod0Idx5Bs0 ss => Sys2Proof.Machine.execSibMod0Idx5Bs0 ss s
  | .sibMod0Idx5Bs1 ss => Sys2Proof.Machine.execSibMod0Idx5Bs1 ss s
  | .sibMod0Idx5Bs2 ss => Sys2Proof.Machine.execSibMod0Idx5Bs2 ss s
  | .sibMod0Idx5Bs3 ss => Sys2Proof.Machine.execSibMod0Idx5Bs3 ss s
  | .sibMod0Idx5Bs4 ss => Sys2Proof.Machine.execSibMod0Idx5Bs4 ss s
  | .sibMod0Idx5Bs5B5 ss => Sys2Proof.Machine.execSibMod0Idx5Bs5B5 ss s
  | .sibMod0Idx5Bs5B13 ss => Sys2Proof.Machine.execSibMod0Idx5Bs5B13 ss s
  | .sibMod0Idx5Bs6 ss => Sys2Proof.Machine.execSibMod0Idx5Bs6 ss s
  | .sibMod0Idx5Bs7 ss => Sys2Proof.Machine.execSibMod0Idx5Bs7 ss s
  | .sibMod0Idx6Bs0 ss => Sys2Proof.Machine.execSibMod0Idx6Bs0 ss s
  | .sibMod0Idx6Bs1 ss => Sys2Proof.Machine.execSibMod0Idx6Bs1 ss s
  | .sibMod0Idx6Bs2 ss => Sys2Proof.Machine.execSibMod0Idx6Bs2 ss s
  | .sibMod0Idx6Bs3 ss => Sys2Proof.Machine.execSibMod0Idx6Bs3 ss s
  | .sibMod0Idx6Bs4 ss => Sys2Proof.Machine.execSibMod0Idx6Bs4 ss s
  | .sibMod0Idx6Bs5B5 ss => Sys2Proof.Machine.execSibMod0Idx6Bs5B5 ss s
  | .sibMod0Idx6Bs5B13 ss => Sys2Proof.Machine.execSibMod0Idx6Bs5B13 ss s
  | .sibMod0Idx6Bs6 ss => Sys2Proof.Machine.execSibMod0Idx6Bs6 ss s
  | .sibMod0Idx6Bs7 ss => Sys2Proof.Machine.execSibMod0Idx6Bs7 ss s
  | .sibMod0Idx7Bs0 ss => Sys2Proof.Machine.execSibMod0Idx7Bs0 ss s
  | .sibMod0Idx7Bs1 ss => Sys2Proof.Machine.execSibMod0Idx7Bs1 ss s
  | .sibMod0Idx7Bs2 ss => Sys2Proof.Machine.execSibMod0Idx7Bs2 ss s
  | .sibMod0Idx7Bs3 ss => Sys2Proof.Machine.execSibMod0Idx7Bs3 ss s
  | .sibMod0Idx7Bs4 ss => Sys2Proof.Machine.execSibMod0Idx7Bs4 ss s
  | .sibMod0Idx7Bs5B5 ss => Sys2Proof.Machine.execSibMod0Idx7Bs5B5 ss s
  | .sibMod0Idx7Bs5B13 ss => Sys2Proof.Machine.execSibMod0Idx7Bs5B13 ss s
  | .sibMod0Idx7Bs6 ss => Sys2Proof.Machine.execSibMod0Idx7Bs6 ss s
  | .sibMod0Idx7Bs7 ss => Sys2Proof.Machine.execSibMod0Idx7Bs7 ss s
  | .sibMod1Idx0Bs0 ss => Sys2Proof.Machine.execSibMod1Idx0Bs0 ss s
  | .sibMod1Idx0Bs1 ss => Sys2Proof.Machine.execSibMod1Idx0Bs1 ss s
  | .sibMod1Idx0Bs2 ss => Sys2Proof.Machine.execSibMod1Idx0Bs2 ss s
  | .sibMod1Idx0Bs3 ss => Sys2Proof.Machine.execSibMod1Idx0Bs3 ss s
  | .sibMod1Idx0Bs4 ss => Sys2Proof.Machine.execSibMod1Idx0Bs4 ss s
  | .sibMod1Idx0Bs5B5 ss => Sys2Proof.Machine.execSibMod1Idx0Bs5B5 ss s
  | .sibMod1Idx0Bs5B13 ss => Sys2Proof.Machine.execSibMod1Idx0Bs5B13 ss s
  | .sibMod1Idx0Bs6 ss => Sys2Proof.Machine.execSibMod1Idx0Bs6 ss s
  | .sibMod1Idx0Bs7 ss => Sys2Proof.Machine.execSibMod1Idx0Bs7 ss s
  | .sibMod1Idx1Bs0 ss => Sys2Proof.Machine.execSibMod1Idx1Bs0 ss s
  | .sibMod1Idx1Bs1 ss => Sys2Proof.Machine.execSibMod1Idx1Bs1 ss s
  | .sibMod1Idx1Bs2 ss => Sys2Proof.Machine.execSibMod1Idx1Bs2 ss s
  | .sibMod1Idx1Bs3 ss => Sys2Proof.Machine.execSibMod1Idx1Bs3 ss s
  | .sibMod1Idx1Bs4 ss => Sys2Proof.Machine.execSibMod1Idx1Bs4 ss s
  | .sibMod1Idx1Bs5B5 ss => Sys2Proof.Machine.execSibMod1Idx1Bs5B5 ss s
  | .sibMod1Idx1Bs5B13 ss => Sys2Proof.Machine.execSibMod1Idx1Bs5B13 ss s
  | .sibMod1Idx1Bs6 ss => Sys2Proof.Machine.execSibMod1Idx1Bs6 ss s
  | .sibMod1Idx1Bs7 ss => Sys2Proof.Machine.execSibMod1Idx1Bs7 ss s
  | .sibMod1Idx2Bs0 ss => Sys2Proof.Machine.execSibMod1Idx2Bs0 ss s
  | .sibMod1Idx2Bs1 ss => Sys2Proof.Machine.execSibMod1Idx2Bs1 ss s
  | .sibMod1Idx2Bs2 ss => Sys2Proof.Machine.execSibMod1Idx2Bs2 ss s
  | .sibMod1Idx2Bs3 ss => Sys2Proof.Machine.execSibMod1Idx2Bs3 ss s
  | .sibMod1Idx2Bs4 ss => Sys2Proof.Machine.execSibMod1Idx2Bs4 ss s
  | .sibMod1Idx2Bs5B5 ss => Sys2Proof.Machine.execSibMod1Idx2Bs5B5 ss s
  | .sibMod1Idx2Bs5B13 ss => Sys2Proof.Machine.execSibMod1Idx2Bs5B13 ss s
  | .sibMod1Idx2Bs6 ss => Sys2Proof.Machine.execSibMod1Idx2Bs6 ss s
  | .sibMod1Idx2Bs7 ss => Sys2Proof.Machine.execSibMod1Idx2Bs7 ss s
  | .sibMod1Idx3Bs0 ss => Sys2Proof.Machine.execSibMod1Idx3Bs0 ss s
  | .sibMod1Idx3Bs1 ss => Sys2Proof.Machine.execSibMod1Idx3Bs1 ss s
  | .sibMod1Idx3Bs2 ss => Sys2Proof.Machine.execSibMod1Idx3Bs2 ss s
  | .sibMod1Idx3Bs3 ss => Sys2Proof.Machine.execSibMod1Idx3Bs3 ss s
  | .sibMod1Idx3Bs4 ss => Sys2Proof.Machine.execSibMod1Idx3Bs4 ss s
  | .sibMod1Idx3Bs5B5 ss => Sys2Proof.Machine.execSibMod1Idx3Bs5B5 ss s
  | .sibMod1Idx3Bs5B13 ss => Sys2Proof.Machine.execSibMod1Idx3Bs5B13 ss s
  | .sibMod1Idx3Bs6 ss => Sys2Proof.Machine.execSibMod1Idx3Bs6 ss s
  | .sibMod1Idx3Bs7 ss => Sys2Proof.Machine.execSibMod1Idx3Bs7 ss s
  | .sibMod1Idx4Bs0 ss => Sys2Proof.Machine.execSibMod1Idx4Bs0 ss s
  | .sibMod1Idx4Bs1 ss => Sys2Proof.Machine.execSibMod1Idx4Bs1 ss s
  | .sibMod1Idx4Bs2 ss => Sys2Proof.Machine.execSibMod1Idx4Bs2 ss s
  | .sibMod1Idx4Bs3 ss => Sys2Proof.Machine.execSibMod1Idx4Bs3 ss s
  | .sibMod1Idx4Bs4 ss => Sys2Proof.Machine.execSibMod1Idx4Bs4 ss s
  | .sibMod1Idx4Bs5B5 ss => Sys2Proof.Machine.execSibMod1Idx4Bs5B5 ss s
  | .sibMod1Idx4Bs5B13 ss => Sys2Proof.Machine.execSibMod1Idx4Bs5B13 ss s
  | .sibMod1Idx4Bs6 ss => Sys2Proof.Machine.execSibMod1Idx4Bs6 ss s
  | .sibMod1Idx4Bs7 ss => Sys2Proof.Machine.execSibMod1Idx4Bs7 ss s
  | .sibMod1Idx5Bs0 ss => Sys2Proof.Machine.execSibMod1Idx5Bs0 ss s
  | .sibMod1Idx5Bs1 ss => Sys2Proof.Machine.execSibMod1Idx5Bs1 ss s
  | .sibMod1Idx5Bs2 ss => Sys2Proof.Machine.execSibMod1Idx5Bs2 ss s
  | .sibMod1Idx5Bs3 ss => Sys2Proof.Machine.execSibMod1Idx5Bs3 ss s
  | .sibMod1Idx5Bs4 ss => Sys2Proof.Machine.execSibMod1Idx5Bs4 ss s
  | .sibMod1Idx5Bs5B5 ss => Sys2Proof.Machine.execSibMod1Idx5Bs5B5 ss s
  | .sibMod1Idx5Bs5B13 ss => Sys2Proof.Machine.execSibMod1Idx5Bs5B13 ss s
  | .sibMod1Idx5Bs6 ss => Sys2Proof.Machine.execSibMod1Idx5Bs6 ss s
  | .sibMod1Idx5Bs7 ss => Sys2Proof.Machine.execSibMod1Idx5Bs7 ss s
  | .sibMod1Idx6Bs0 ss => Sys2Proof.Machine.execSibMod1Idx6Bs0 ss s
  | .sibMod1Idx6Bs1 ss => Sys2Proof.Machine.execSibMod1Idx6Bs1 ss s
  | .sibMod1Idx6Bs2 ss => Sys2Proof.Machine.execSibMod1Idx6Bs2 ss s
  | .sibMod1Idx6Bs3 ss => Sys2Proof.Machine.execSibMod1Idx6Bs3 ss s
  | .sibMod1Idx6Bs4 ss => Sys2Proof.Machine.execSibMod1Idx6Bs4 ss s
  | .sibMod1Idx6Bs5B5 ss => Sys2Proof.Machine.execSibMod1Idx6Bs5B5 ss s
  | .sibMod1Idx6Bs5B13 ss => Sys2Proof.Machine.execSibMod1Idx6Bs5B13 ss s
  | .sibMod1Idx6Bs6 ss => Sys2Proof.Machine.execSibMod1Idx6Bs6 ss s
  | .sibMod1Idx6Bs7 ss => Sys2Proof.Machine.execSibMod1Idx6Bs7 ss s
  | .sibMod1Idx7Bs0 ss => Sys2Proof.Machine.execSibMod1Idx7Bs0 ss s
  | .sibMod1Idx7Bs1 ss => Sys2Proof.Machine.execSibMod1Idx7Bs1 ss s
  | .sibMod1Idx7Bs2 ss => Sys2Proof.Machine.execSibMod1Idx7Bs2 ss s
  | .sibMod1Idx7Bs3 ss => Sys2Proof.Machine.execSibMod1Idx7Bs3 ss s
  | .sibMod1Idx7Bs4 ss => Sys2Proof.Machine.execSibMod1Idx7Bs4 ss s
  | .sibMod1Idx7Bs5B5 ss => Sys2Proof.Machine.execSibMod1Idx7Bs5B5 ss s
  | .sibMod1Idx7Bs5B13 ss => Sys2Proof.Machine.execSibMod1Idx7Bs5B13 ss s
  | .sibMod1Idx7Bs6 ss => Sys2Proof.Machine.execSibMod1Idx7Bs6 ss s
  | .sibMod1Idx7Bs7 ss => Sys2Proof.Machine.execSibMod1Idx7Bs7 ss s
  | .sibMod2Idx0Bs0 ss => Sys2Proof.Machine.execSibMod2Idx0Bs0 ss s
  | .sibMod2Idx0Bs1 ss => Sys2Proof.Machine.execSibMod2Idx0Bs1 ss s
  | .sibMod2Idx0Bs2 ss => Sys2Proof.Machine.execSibMod2Idx0Bs2 ss s
  | .sibMod2Idx0Bs3 ss => Sys2Proof.Machine.execSibMod2Idx0Bs3 ss s
  | .sibMod2Idx0Bs4 ss => Sys2Proof.Machine.execSibMod2Idx0Bs4 ss s
  | .sibMod2Idx0Bs5B5 ss => Sys2Proof.Machine.execSibMod2Idx0Bs5B5 ss s
  | .sibMod2Idx0Bs5B13 ss => Sys2Proof.Machine.execSibMod2Idx0Bs5B13 ss s
  | .sibMod2Idx0Bs6 ss => Sys2Proof.Machine.execSibMod2Idx0Bs6 ss s
  | .sibMod2Idx0Bs7 ss => Sys2Proof.Machine.execSibMod2Idx0Bs7 ss s
  | .sibMod2Idx1Bs0 ss => Sys2Proof.Machine.execSibMod2Idx1Bs0 ss s
  | .sibMod2Idx1Bs1 ss => Sys2Proof.Machine.execSibMod2Idx1Bs1 ss s
  | .sibMod2Idx1Bs2 ss => Sys2Proof.Machine.execSibMod2Idx1Bs2 ss s
  | .sibMod2Idx1Bs3 ss => Sys2Proof.Machine.execSibMod2Idx1Bs3 ss s
  | .sibMod2Idx1Bs4 ss => Sys2Proof.Machine.execSibMod2Idx1Bs4 ss s
  | .sibMod2Idx1Bs5B5 ss => Sys2Proof.Machine.execSibMod2Idx1Bs5B5 ss s
  | .sibMod2Idx1Bs5B13 ss => Sys2Proof.Machine.execSibMod2Idx1Bs5B13 ss s
  | .sibMod2Idx1Bs6 ss => Sys2Proof.Machine.execSibMod2Idx1Bs6 ss s
  | .sibMod2Idx1Bs7 ss => Sys2Proof.Machine.execSibMod2Idx1Bs7 ss s
  | .sibMod2Idx2Bs0 ss => Sys2Proof.Machine.execSibMod2Idx2Bs0 ss s
  | .sibMod2Idx2Bs1 ss => Sys2Proof.Machine.execSibMod2Idx2Bs1 ss s
  | .sibMod2Idx2Bs2 ss => Sys2Proof.Machine.execSibMod2Idx2Bs2 ss s
  | .sibMod2Idx2Bs3 ss => Sys2Proof.Machine.execSibMod2Idx2Bs3 ss s
  | .sibMod2Idx2Bs4 ss => Sys2Proof.Machine.execSibMod2Idx2Bs4 ss s
  | .sibMod2Idx2Bs5B5 ss => Sys2Proof.Machine.execSibMod2Idx2Bs5B5 ss s
  | .sibMod2Idx2Bs5B13 ss => Sys2Proof.Machine.execSibMod2Idx2Bs5B13 ss s
  | .sibMod2Idx2Bs6 ss => Sys2Proof.Machine.execSibMod2Idx2Bs6 ss s
  | .sibMod2Idx2Bs7 ss => Sys2Proof.Machine.execSibMod2Idx2Bs7 ss s
  | .sibMod2Idx3Bs0 ss => Sys2Proof.Machine.execSibMod2Idx3Bs0 ss s
  | .sibMod2Idx3Bs1 ss => Sys2Proof.Machine.execSibMod2Idx3Bs1 ss s
  | .sibMod2Idx3Bs2 ss => Sys2Proof.Machine.execSibMod2Idx3Bs2 ss s
  | .sibMod2Idx3Bs3 ss => Sys2Proof.Machine.execSibMod2Idx3Bs3 ss s
  | .sibMod2Idx3Bs4 ss => Sys2Proof.Machine.execSibMod2Idx3Bs4 ss s
  | .sibMod2Idx3Bs5B5 ss => Sys2Proof.Machine.execSibMod2Idx3Bs5B5 ss s
  | .sibMod2Idx3Bs5B13 ss => Sys2Proof.Machine.execSibMod2Idx3Bs5B13 ss s
  | .sibMod2Idx3Bs6 ss => Sys2Proof.Machine.execSibMod2Idx3Bs6 ss s
  | .sibMod2Idx3Bs7 ss => Sys2Proof.Machine.execSibMod2Idx3Bs7 ss s
  | .sibMod2Idx4Bs0 ss => Sys2Proof.Machine.execSibMod2Idx4Bs0 ss s
  | .sibMod2Idx4Bs1 ss => Sys2Proof.Machine.execSibMod2Idx4Bs1 ss s
  | .sibMod2Idx4Bs2 ss => Sys2Proof.Machine.execSibMod2Idx4Bs2 ss s
  | .sibMod2Idx4Bs3 ss => Sys2Proof.Machine.execSibMod2Idx4Bs3 ss s
  | .sibMod2Idx4Bs4 ss => Sys2Proof.Machine.execSibMod2Idx4Bs4 ss s
  | .sibMod2Idx4Bs5B5 ss => Sys2Proof.Machine.execSibMod2Idx4Bs5B5 ss s
  | .sibMod2Idx4Bs5B13 ss => Sys2Proof.Machine.execSibMod2Idx4Bs5B13 ss s
  | .sibMod2Idx4Bs6 ss => Sys2Proof.Machine.execSibMod2Idx4Bs6 ss s
  | .sibMod2Idx4Bs7 ss => Sys2Proof.Machine.execSibMod2Idx4Bs7 ss s
  | .sibMod2Idx5Bs0 ss => Sys2Proof.Machine.execSibMod2Idx5Bs0 ss s
  | .sibMod2Idx5Bs1 ss => Sys2Proof.Machine.execSibMod2Idx5Bs1 ss s
  | .sibMod2Idx5Bs2 ss => Sys2Proof.Machine.execSibMod2Idx5Bs2 ss s
  | .sibMod2Idx5Bs3 ss => Sys2Proof.Machine.execSibMod2Idx5Bs3 ss s
  | .sibMod2Idx5Bs4 ss => Sys2Proof.Machine.execSibMod2Idx5Bs4 ss s
  | .sibMod2Idx5Bs5B5 ss => Sys2Proof.Machine.execSibMod2Idx5Bs5B5 ss s
  | .sibMod2Idx5Bs5B13 ss => Sys2Proof.Machine.execSibMod2Idx5Bs5B13 ss s
  | .sibMod2Idx5Bs6 ss => Sys2Proof.Machine.execSibMod2Idx5Bs6 ss s
  | .sibMod2Idx5Bs7 ss => Sys2Proof.Machine.execSibMod2Idx5Bs7 ss s
  | .sibMod2Idx6Bs0 ss => Sys2Proof.Machine.execSibMod2Idx6Bs0 ss s
  | .sibMod2Idx6Bs1 ss => Sys2Proof.Machine.execSibMod2Idx6Bs1 ss s
  | .sibMod2Idx6Bs2 ss => Sys2Proof.Machine.execSibMod2Idx6Bs2 ss s
  | .sibMod2Idx6Bs3 ss => Sys2Proof.Machine.execSibMod2Idx6Bs3 ss s
  | .sibMod2Idx6Bs4 ss => Sys2Proof.Machine.execSibMod2Idx6Bs4 ss s
  | .sibMod2Idx6Bs5B5 ss => Sys2Proof.Machine.execSibMod2Idx6Bs5B5 ss s
  | .sibMod2Idx6Bs5B13 ss => Sys2Proof.Machine.execSibMod2Idx6Bs5B13 ss s
  | .sibMod2Idx6Bs6 ss => Sys2Proof.Machine.execSibMod2Idx6Bs6 ss s
  | .sibMod2Idx6Bs7 ss => Sys2Proof.Machine.execSibMod2Idx6Bs7 ss s
  | .sibMod2Idx7Bs0 ss => Sys2Proof.Machine.execSibMod2Idx7Bs0 ss s
  | .sibMod2Idx7Bs1 ss => Sys2Proof.Machine.execSibMod2Idx7Bs1 ss s
  | .sibMod2Idx7Bs2 ss => Sys2Proof.Machine.execSibMod2Idx7Bs2 ss s
  | .sibMod2Idx7Bs3 ss => Sys2Proof.Machine.execSibMod2Idx7Bs3 ss s
  | .sibMod2Idx7Bs4 ss => Sys2Proof.Machine.execSibMod2Idx7Bs4 ss s
  | .sibMod2Idx7Bs5B5 ss => Sys2Proof.Machine.execSibMod2Idx7Bs5B5 ss s
  | .sibMod2Idx7Bs5B13 ss => Sys2Proof.Machine.execSibMod2Idx7Bs5B13 ss s
  | .sibMod2Idx7Bs6 ss => Sys2Proof.Machine.execSibMod2Idx7Bs6 ss s
  | .sibMod2Idx7Bs7 ss => Sys2Proof.Machine.execSibMod2Idx7Bs7 ss s

end Sys2Proof.Machine
end

