-- ==== Sys2Proof/Machine/Fetch.lean ====
section
/-! DEFINITION. Fetching the form a call reads next, and what a step does outside a form: the caller's moves between
calls, the reset of a running call, and the state in which a given word is fetched. -/

namespace Sys2Proof.Machine

/-! ## The bytes at hand -/

/-- At most `n` bytes of the buffer from address `a` on, fewer where the buffer ends. -/
def State.bytesFrom (s : State) : Nat → Nat → List Byte
  | 0, _ => []
  | n + 1, a => if a + 1 ≤ s.len then s.buf.read a :: s.bytesFrom n (a + 1) else []

/-- The bytes the decoder looks at: at the cursor until the ModRM byte is read, then ModRM, then ModRM and SIB. -/
def State.formBytes (s : State) : List Byte :=
  match s.stage with
  | .scan | .opcode | .modrm => s.bytesFrom 3 s.pos
  | .rm =>
    match s.modrm with
    | some v => [v.toByte]
    | none => []
  | .sib =>
    match s.modrm, s.sib with
    | some v, some x => [v.toByte, x.toByte]
    | _, _ => []
  | .idle | .fixed => []

/-- What the rows' conditions see of the state. -/
def State.ctx (s : State) : Ctx :=
  { stage := s.stage, rexX := s.rexX, rexB := s.rexB, memOnly := s.memOnly }

/-- The form the call reads next. -/
def State.fetch (s : State) : Except Reject Instr :=
  decode s.cfg s.ctx s.formBytes

/-- Truncated raised by the cursor primitive that finds no byte. At `scan` a byte that is there has ended PFXSCAN and
REXDEC before the opcode runs out of bytes (60_exceptions.md R285 a, b, c). -/
def truncatedFetch (s : State) : State :=
  match s.stage, s.formBytes with
  | .scan, _ :: _ => s.endScan.raiseError .truncated
  | _, _ => s.raiseError .truncated

/-! ## The caller -/

/-- Reset between calls: the block's own state only; the cursor and the tables are not touched
(70_reset_and_hazards.md R321). -/
def State.resetBlock (s : State) : State :=
  { s.discardWork with out := none }

/-- Reset during a call: no result, and POS is unreliable (70_reset_and_hazards.md R321; 93 U12). -/
def State.lostCall (s : State) : State :=
  { s.resetBlock with pos := s.drawPos, drawn := s.drawn + 1 }

/-- One move of the caller while no call is in progress (00_scope.md R19); without a move the block does nothing
(60_exceptions.md R301). -/
def hostStep (s : State) : Result :=
  match s.host with
  | [] => .next s
  | .start :: rest => .next { s.beginCall with host := rest }
  | .await :: rest => .next { s with host := rest }
  | .setPos p :: rest =>
    if p ≤ s.len then .next { s with pos := p, host := rest } else .fault .positionOutsideBuffer
  | .load bytes p :: rest =>
    if bytes.length < 2 ^ s.cfg.posBits then
      if p ≤ bytes.length then
        .next { s with buf := Memory.ofBytes bytes, len := bytes.length, pos := p, host := rest }
      else .fault .positionOutsideBuffer
    else .fault .bufferTooLong
  | .reset :: rest => .next { s.resetBlock with host := rest }

/-! ## Placing a word -/

/-- Bytes put at the cursor, the buffer made long enough for them. -/
def State.place (s : State) (bytes : List Byte) : State :=
  { s with buf := s.buf.writeBytes s.pos bytes, len := max s.len (s.pos + bytes.length) }

/-- A call that has resolved the descriptor of `T1(89)` and read the given ModRM byte (and SIB byte) at the cursor. -/
def State.atForm (s : State) (st : Stage) (v : Byte) (x : Option Byte) (n : Nat) : State :=
  { s with
    pos := s.pos + n, desc := some movStoreDesc, slots := some (emptySlots 2), modrm := some (ModRM.ofByte v),
    sib := x.map Sib.ofByte, stage := st }

/-- A call in progress in which the given bytes are read next, in the context `decodeTableWord` reads them in. -/
def placeWord (s : State) (nbits w : Nat) : State :=
  let t := State.place { s.beginCall with host := [] } (tableBytes nbits w ++ zeroTail)
  match (tableCtx nbits w).stage, tableBytes nbits w with
  | .rm, v :: _ => t.atForm .rm v none 1
  | .sib, v :: x :: _ => t.atForm .sib v (some x) 2
  | _, _ => t

end Sys2Proof.Machine
end

