-- ==== Sys2Proof/Machine/Step.lean ====
section
/-! DEFINITION. One step: a move of the caller between calls, or one byte form of the call in progress, or FIXRES and the
return. -/

namespace Sys2Proof.Machine

/-- The next form of the call in progress is fetched and executed; at `fixed` FIXRES runs and the call returns. -/
def callStep (s : State) : Result :=
  match s.stage with
  | .fixed => fixresAndReturn s
  | _ =>
    match s.fetch with
    | .ok i => exec i s
    | .error .truncated => .next (truncatedFetch s)
    | .error .noForm => .refused .noForm

/-- One step. During a call the caller is blocked (20_memory.md R84): only a reset reaches the block
(70_reset_and_hazards.md R321), and a second start on the same cursor has no meaning (20_memory.md R82). -/
def step (s : State) : Host.Outcome State Fault Refusal :=
  match s.stage with
  | .idle => hostStep s
  | _ =>
    match s.host with
    | .reset :: rest => .next { s.lostCall with host := rest }
    | .start :: _ => .refused .overlappingCalls
    | _ => callStep s

/-- The state with the word stored where the step fetches its next form, and nothing pending before it. Log 9. -/
def State.withFetchWord (s : State) (nbits w : Nat) : State := placeWord s nbits w

end Sys2Proof.Machine
end

