-- ==== Sys2Proof/Machine/DecodeOne.lean ====
section
/-! DEFINITION. DECODE_ONE as one transaction (46_orchestrator.md R260, 70_reset_and_hazards.md R340), written from the
pseudocode of its five stages: PFXSCAN R140, REXDEC R160, OPCRES R170, AMODE R190 to R227, FIXRES R250. It does not use
the rows of the opcode table: a statement says that the steps of a call, row by row, amount to it. Log 7. -/

namespace Sys2Proof.Machine

/-- A stage either goes on with a state or ends the call. -/
inductive Flow where
  | go (s : State)
  | stop (r : Result)

/-- The next stage runs if this one went on. -/
def Flow.andThen (f : Flow) (k : State → Flow) : Flow :=
  match f with
  | .go s => k s
  | .stop r => .stop r

/-- `raise E` (60_exceptions.md R284). -/
def Flow.raise (s : State) (e : DecodeError) : Flow := .stop (.next (s.raiseError e))

/-- PFXSCAN (40_prefix_scanner.md R140); every turn but the last advances POS, so `LEN - POS + 1` turns are enough. -/
def pfxScan : Nat → State → Flow
  | 0, s => .go s
  | n + 1, s =>
    match s.peek with
    | none => Flow.raise s .truncated
    | some v =>
      match s.cfg.prefixOf v with
      | none => .go s
      | some f => pfxScan n { s with pfx := s.pfx.set f, pos := s.pos + 1 }

/-- REXDEC (41_rex_decoder.md R160). PFXSCAN and REXDEC are done when it ends. -/
def rexDec (s : State) : Flow :=
  match s.peek with
  | none => Flow.raise s .truncated
  | some v =>
    if v.extractLsb' 4 4 = 4#4 then
      .go { s with
        rex := some { w := v.getLsbD 3, r := v.getLsbD 2, x := v.getLsbD 1, b := v.getLsbD 0 },
        pos := s.pos + 1, stage := .opcode }
    else .go { s with rex := none, stage := .opcode }

/-- The table's answer: UnknownOpcode, or the descriptor, which must be well-formed, and its slot array
(42_opcode_resolver.md R170, R178; 46_orchestrator.md R260, R262). -/
def takeEntry (e : Option OpcodeDescriptor) (o : OpcBytes) (s : State) : Flow :=
  match e with
  | none => Flow.raise s .unknownOpcode
  | some d =>
    if d.wf s.cfg.nslot then
      .go { s with opc := some o, desc := some d, slots := some (List.replicate d.operands.length none) }
    else .stop (.refused .illFormedDescriptor)

/-- OPCRES (42_opcode_resolver.md R170). -/
def opcRes (s : State) : Flow :=
  match s.readU8 with
  | none => Flow.raise s .truncated
  | some (o1, s1) =>
    if o1 ≠ s.cfg.esc then takeEntry (s.cfg.lookup .t1 o1) (.one o1) s1
    else
      match s1.readU8 with
      | none => Flow.raise s1 .truncated
      | some (o2, s2) =>
        if o2 = s.cfg.selA then
          match s2.readU8 with
          | none => Flow.raise s2 .truncated
          | some (o3, s3) => takeEntry (s.cfg.lookup .t3a o3) (.threeA o1 o2 o3) s3
        else if o2 = s.cfg.selB then
          match s2.readU8 with
          | none => Flow.raise s2 .truncated
          | some (o3, s3) => takeEntry (s.cfg.lookup .t3b o3) (.threeB o1 o2 o3) s3
        else takeEntry (s.cfg.lookup .t2 o2) (.two o1 o2) s2

/-- `op`'s slot is written and AMODE ends. -/
def storeAndGo (op : OperandDescriptor) (v : Operand) (s : State) : Flow := .go (s.setSlot op.index v)

/-- The displacement of `mod` 1 or 2 (30_encoding.md R109), then the rest. -/
def withDisp (mod : BitVec 2) (s : State) (k : Int → State → Flow) : Flow :=
  match if mod = 1#2 then s.readI8 else s.readI32 with
  | none => Flow.raise s .truncated
  | some (d, t) => k d t

/-- The SIB path (44_sib.md R220 to R227). -/
def amodeSib (op : OperandDescriptor) (mod : BitVec 2) (s : State) : Flow :=
  match s.readU8 with
  | none => Flow.raise s .truncated
  | some (v, s1) =>
    let x := Sib.ofByte v
    let t := { s1 with sib := some x }
    let index := t.indexTerm op.kind x.idx x.ss
    let bs4 := ext4 x.bs t.rexB
    let base5 := match t.cfg.base5 with
      | .extended => decide (bs4 = 5#4)
      | .raw => decide (x.bs = 5#3)
    let base := t.regdes op.kind bs4
    if base5 = true then
      if mod = 0#2 then
        match t.readI32 with
        | none => Flow.raise t .truncated
        | some (d, u) => storeAndGo op (.mem (noBaseExpr index (some d))) u
      else withDisp mod t fun d u => storeAndGo op (.mem (base5Expr base index (some d))) u
    else
      if mod = 0#2 then storeAndGo op (.mem (baseExpr base index none)) t
      else withDisp mod t fun d u => storeAndGo op (.mem (baseExpr base index (some d))) u

/-- The rm operand, tested in the source's order (43_addressing_mode.md R194 to R199). -/
def amodeRm (d : OpcodeDescriptor) (op : OperandDescriptor) (v : ModRM) (s : State) : Flow :=
  if v.mod ≠ 3#2 ∧ v.rm = 4#3 then amodeSib op v.mod s
  else if v.mod = 3#2 then
    if d.m.isSome then Flow.raise s .invalidEncoding
    else storeAndGo op (.reg (s.regdes op.kind (ext4 v.rm s.rexB))) s
  else if s.rexX then Flow.raise s .invalidEncoding
  else
    let base := s.regdes op.kind (ext4 v.rm s.rexB)
    if v.mod = 0#2 then storeAndGo op (.mem (baseExpr base none none)) s
    else withDisp v.mod s fun x u => storeAndGo op (.mem (baseExpr base none (some x))) u

/-- AMODE (43_addressing_mode.md R190, R191, R193), run only when the descriptor has ModRM. -/
def amode (s : State) : Flow :=
  match s.desc with
  | none => .stop (.refused .illFormedDescriptor)
  | some d =>
    if d.modrm then
      match s.readU8 with
      | none => Flow.raise s .truncated
      | some (v, s1) =>
        let x := ModRM.ofByte v
        match d.deref d.r, d.deref d.opRole with
        | some r, some op =>
          let t := { s1 with modrm := some x }
          amodeRm d op x (t.setSlot r.index (.reg (t.regdes r.kind (ext4 x.reg t.rexR))))
        | _, _ => .stop (.refused .illFormedDescriptor)
    else .go s

/-- DECODE_ONE (46_orchestrator.md R260). -/
def decodeOne (s : State) : Result :=
  let b := s.beginCall
  match ((((pfxScan (b.len - b.pos + 1) b).andThen rexDec).andThen opcRes).andThen amode) with
  | .go t => fixresAndReturn t
  | .stop r => r

end Sys2Proof.Machine
end

