-- ==== Sys2Proof/Machine/Ports.lean ====
section
/-! DEFINITION. The ports of the block as transactions (10_state.md R46, R47; 92 D2): a request and its reply are one
event. The `start` port is the host move `start`; `done` and `side` are read from the state. -/

namespace Sys2Proof.Machine

/-- cur_req: the five operations of the Byte Cursor (R47). -/
inductive CurReq where
  | peek
  | skip (n : Nat)
  | readU8
  | readI8
  | readI32
deriving DecidableEq, Repr

/-- cur_rsp: `truncated` is `ok = 0`; `skipped` a skip that succeeded; a byte; a signed number (R47). -/
inductive CurRsp where
  | truncated
  | skipped
  | byte (v : Byte)
  | signed (v : Int)
deriving DecidableEq, Repr

/-- The cursor after a primitive raised Truncated: POS is unreliable (20_memory.md section 2, 10_state.md R33; M9, M10 and
M12 of 95_test_vectors.md), so it is the next unconstrained draw in 0..LEN. Log 1. -/
def State.cursorLost (s : State) : State :=
  { s with pos := s.drawPos, drawn := s.drawn + 1 }

/-- The reply of a primitive: `reply` of what it answers and the state it leaves, or Truncated and a lost cursor. -/
def State.replyOr {α : Type} (s : State) (answer : Option α) (reply : α → CurRsp × State) : CurRsp × State :=
  match answer with
  | some a => reply a
  | none => (.truncated, s.cursorLost)

/-- One event on the cursor port: the reply, and the state with the cursor moved as the operation says. After a Truncated
reply POS is a free draw, for `peek` too (DESIGN CHOICE, log 1). -/
def State.cursorPort (s : State) : CurReq → CurRsp × State
  | .peek => s.replyOr s.peek fun v => (.byte v, s)
  | .skip n => s.replyOr (s.skip n) fun t => (.skipped, t)
  | .readU8 => s.replyOr s.readU8 fun q => (.byte q.1, q.2)
  | .readI8 => s.replyOr s.readI8 fun q => (.signed q.1, q.2)
  | .readI32 => s.replyOr s.readI32 fun q => (.signed q.1, q.2)

/-- tab_req and tab_rsp: `none` is `valid = 0` (R47, 20_memory.md R75). -/
def State.tablePort (s : State) (sel : TableSel) (key : Byte) : Option OpcodeDescriptor :=
  s.cfg.lookup sel key

/-- reg_req and reg_rsp: the printable name of a designator (R47, 20_memory.md R76). -/
def State.namePort (s : State) (d : Designator) : String :=
  s.cfg.regName d

/-- The `done` port: STATUS, and with STATUS 0 the type, the operand count and the operands (R47). With another STATUS the
port has no such fields: here no type, count 0 and no operands (DESIGN CHOICE, log 14). -/
structure DonePort where
  status   : BitVec 2
  tag      : Option Tag
  nops     : Nat
  operands : List Operand
deriving DecidableEq, Repr

/-- What the `done` port shows: nothing until a call has finished (10_state.md R48). -/
def State.donePort (s : State) : Option DonePort :=
  s.out.map fun o =>
    match o.result with
    | .ok i => { status := o.result.status, tag := some i.tag, nops := i.operands.length, operands := i.operands }
    | .error _ => { status := o.result.status, tag := none, nops := 0, operands := [] }

/-- The `side` port: the PFX flags, and REX.present, w, r, x, b, for the stages completed before `done` (R47). -/
structure SidePort where
  pfx     : PrefixSet
  present : Bool
  w       : Bool
  r       : Bool
  x       : Bool
  b       : Bool
deriving DecidableEq, Repr

/-- What the `side` port shows whenever `done` is valid and PFXSCAN and REXDEC were completed. -/
def State.sidePort (s : State) : Option SidePort :=
  (s.out.bind fun o => o.side).map fun x =>
    { pfx := x.pfx, present := x.rex.isSome, w := rexBit x.rex RexFlags.w, r := rexBit x.rex RexFlags.r,
      x := rexBit x.rex RexFlags.x, b := rexBit x.rex RexFlags.b }

end Sys2Proof.Machine
end

