-- ==== Sys2Proof/Safety.lean ====
section
/-! DEFINITION. The terms statements use: the invariant of the block between steps, the shapes of operands, and what it
means for two states to show a call the same bytes. -/

namespace Sys2Proof

/-- A ModRM byte that a SIB byte follows (43_addressing_mode.md R194). -/
def ModRM.hasSib (v : ModRM) : Bool := v.mod != 3#2 && v.rm == 4#3

/-- Displacement bytes by `mod` (30_encoding.md R109). -/
def MemMod.dispBytes : MemMod → Nat
  | .m0 => 0
  | .m1 => 1
  | .m2 => 4

/-- How many bytes at the cursor a row's meaning consumes (10_state.md R31). -/
def Row.consumes : Row → Nat
  | .pfx _ | .rexByte _ _ _ _ | .oneByte _ | .cell _ | .reg _ _ _ | .follows _ => 1
  | .twoByte _ => 2
  | .threeByteA _ | .threeByteB _ => 3
  | .direct _ _ | .mem _ _ true => 0
  | .mem k _ false => k.dispBytes
  | .sib .m0 _ _ true _ => 4
  | .sib k _ _ _ _ => k.dispBytes

/-- The rows that build a memory operand (43_addressing_mode.md R198, R199; 44_sib.md R223 to R227). -/
def Row.buildsMem : Row → Bool
  | .mem _ _ rexX => !rexX
  | .sib _ _ _ _ _ => true
  | .pfx _ | .rexByte _ _ _ _ | .oneByte _ | .twoByte _ | .threeByteA _ | .threeByteB _ | .cell _ | .reg _ _ _
  | .direct _ _ | .follows _ => false

/-- No two byte values set one flag of PFX, as in the default list (30_encoding.md R104). -/
def Params.oneBytePerFlag (p : Params) : Prop :=
  ∀ (v w : Byte) (f : PfxFlag), p.prefixOf v = some f → p.prefixOf w = some f → v = w

namespace Machine

/-! ## Shapes -/

/-- The six shapes of (`base`, `index`, `disp`) (10_state.md R42): all but "nothing" and "index alone". -/
def MemoryExpr.sixShapes (e : MemoryExpr) : Bool :=
  e.base.isSome || e.disp.isSome

/-- An operand's memory expression, if it has one, has one of the six shapes. -/
def Operand.shapeOk : Operand → Bool
  | .mem e => e.sixShapes
  | .reg _ => true
  | .lit _ => true

/-- The designators an operand names. -/
def Operand.designators : Operand → List Designator
  | .reg d => [d]
  | .mem e => e.base.toList ++ (e.index.map IndexTerm.reg).toList
  | .lit _ => []

/-! ## The invariant -/

/-- The cursor: `0 <= POS <= LEN < 2^POS_BITS` (20_memory.md R63; 92 D15), the buffer in canonical form with no byte
beyond LEN. -/
def State.cursorOk (s : State) : Bool :=
  s.pos ≤ s.len && s.len < 2 ^ s.cfg.posBits && s.buf.wf && s.buf.within s.len

/-- No working register holds a value (10_state.md R48). -/
def State.workEmpty (s : State) : Bool :=
  s.pos0.isNone && s.pfx == PrefixSet.empty && s.rex.isNone && s.opc.isNone && s.desc.isNone && s.modrm.isNone
    && s.sib.isNone && s.disp.isNone && s.slots.isNone

/-- DESC holds a well-formed descriptor that satisfies `q`, and the slot array has its length (10_state.md R23). -/
def State.resolved (s : State) (q : OpcodeDescriptor → Bool) : Bool :=
  match s.desc, s.slots with
  | some d, some l => d.wf s.cfg.nslot && l.length == d.operands.length && q d
  | _, _ => false

/-- The slot of a role is filled. -/
def State.slotFilled (s : State) (role : Option OperandDescriptor) : Bool :=
  match role, s.slots with
  | some o, some l =>
    match l[o.index]? with
    | some (some _) => true
    | _ => false
  | _, _ => false

/-- POS0 is held, and the call has not moved the cursor back (20_memory.md R63). -/
def State.forward (s : State) : Bool :=
  match s.pos0 with
  | some p => p ≤ s.pos
  | none => false

/-- What the working registers hold at each stage (10_state.md R22: the order in which they are written). -/
def State.workOk (s : State) : Bool :=
  match s.stage with
  | .idle => s.workEmpty
  | .scan =>
    s.forward && s.out.isNone && s.rex.isNone && s.opc.isNone && s.desc.isNone && s.modrm.isNone && s.sib.isNone
      && s.disp.isNone && s.slots.isNone
  | .opcode =>
    s.forward && s.out.isNone && s.opc.isNone && s.desc.isNone && s.modrm.isNone && s.sib.isNone && s.disp.isNone
      && s.slots.isNone
  | .modrm =>
    s.forward && s.out.isNone && s.opc.isSome && s.modrm.isNone && s.sib.isNone && s.disp.isNone
      && s.resolved (fun d => d.modrm)
  | .rm =>
    s.forward && s.out.isNone && s.opc.isSome && s.modrm.isSome && s.sib.isNone && s.disp.isNone
      && s.resolved (fun d => d.modrm) && s.slotFilled s.regRole
  | .sib =>
    s.forward && s.out.isNone && s.opc.isSome && s.sib.isSome && s.disp.isNone && s.resolved (fun d => d.modrm)
      && s.slotFilled s.regRole
      && (match s.modrm with
          | some v => v.hasSib
          | none => false)
  | .fixed =>
    s.forward && s.out.isNone && s.opc.isSome
      && s.resolved (fun d => !d.modrm || (s.modrm.isSome && s.slotFilled s.regRole && s.slotFilled s.opRole))

/-- The invariant of the block: the cursor is in its bounds and the working registers hold what the stage says. -/
def State.Inv (s : State) : Bool := s.cursorOk && s.workOk

/-- The invariant over the operands a call has produced so far, and over the result of a finished call: every memory
expression has one of the six shapes. -/
def State.shapesOk (s : State) : Bool :=
  (match s.slots with
    | some l => l.all fun x =>
      match x with
      | some v => v.shapeOk
      | none => true
    | none => true)
  && (match s.out with
    | some o =>
      match o.result with
      | .ok i => i.operands.all Operand.shapeOk
      | .error _ => true
    | none => true)

/-! ## Equal views -/

/-- Two states show a call the same bytes from the cursor on, under the same parameters (46_orchestrator.md R268). -/
def State.sameView (s t : State) : Prop :=
  s.cfg = t.cfg ∧ s.len - s.pos = t.len - t.pos ∧
    ∀ k, k < s.len - s.pos → s.buf.read (s.pos + k) = t.buf.read (t.pos + k)

/-- The result a finished call shows. -/
def State.result (s : State) : Option CallResult := s.out.map Output.result

/-! ## The values the rules give, in numbers -/

/-- `sext_8` (00_scope.md R11): the byte read as a two's-complement number. -/
def signed8 (v : Byte) : Int :=
  if v.toNat < 128 then (v.toNat : Int) else (v.toNat : Int) - 256

/-- `sext_32` of four bytes, the first the least significant (20_memory.md R68, R70). -/
def signed32 (b0 b1 b2 b3 : Byte) : Int :=
  let n := b0.toNat + 256 * b1.toNat + 65536 * b2.toNat + 16777216 * b3.toNat
  if n < 2147483648 then (n : Int) else (n : Int) - 4294967296

/-- The displacement at the cursor by `mod` (30_encoding.md R109, R111). -/
def State.dispAt (s : State) : MemMod → Option Int
  | .m0 => none
  | .m1 => some (signed8 (s.buf.read s.pos))
  | .m2 =>
    some (signed32 (s.buf.read s.pos) (s.buf.read (s.pos + 1)) (s.buf.read (s.pos + 2)) (s.buf.read (s.pos + 3)))

/-- The designator of a raw field and its extension bit: index `raw + 8 * bit`, class by kind, 64 bits with REX.w and 32
without for the general class, no width otherwise (10_state.md R26, 30_encoding.md R110). -/
def State.registerOf (s : State) (kind : OperandKind) (raw : BitVec 3) (bit : Bool) : Designator :=
  { cls := match kind with
      | .mmx => .mmx
      | .xmm => .xmm
      | .gpr | .rm | .fixed => .gpr
    width := match kind with
      | .mmx | .xmm => none
      | .gpr | .rm | .fixed => if s.rexW then some .w64 else some .w32
    idx := BitVec.ofNat 4 (raw.toNat + if bit then 8 else 0) }

/-- The scales in the order of `ss` (30_encoding.md R108). -/
def scalesByField : List Scale := [.s1, .s2, .s4, .s8]

/-- The index term of a SIB byte (44_sib.md R222): none for raw 4, else scale and register. -/
def State.indexOf (s : State) (kind : OperandKind) (idx : BitVec 3) (ss : BitVec 2) : Option IndexTerm :=
  if idx.toNat = 4 then none
  else (scalesByField[ss.toNat]?).map fun sc => { scale := sc, reg := s.registerOf kind idx s.rexX }

/-! ## What a row leaves -/

/-- The state after an error (60_exceptions.md R284, R283; 10_state.md R33): only the kind and the side outputs are
shown, no working register holds a value, POS is the next unconstrained draw in 0..LEN, and the buffer, the tables and
the caller's moves are as before. -/
def errorState (s : State) (side : Option Side) (e : DecodeError) : State :=
  { cfg := s.cfg, buf := s.buf, len := s.len, pos := Config.posAfterError s.drawn % (s.len + 1), pos0 := none
    pfx := PrefixSet.empty, rex := none, opc := none, desc := none, modrm := none, sib := none, disp := none
    slots := none, stage := .idle, out := some { result := .error e, side := side }, host := s.host
    drawn := s.drawn + 1 }

/-- The state after an opcode row resolved `d` (42_opcode_resolver.md R170, R178; 46_orchestrator.md R262). -/
def resolvedState (s : State) (o : OpcBytes) (n : Nat) (d : OpcodeDescriptor) : State :=
  { s with
    pos := s.pos + n, opc := some o, desc := some d, slots := some (List.replicate d.operands.length none)
    stage := if d.modrm then .modrm else .fixed }

/-- DISP after a row with the displacement of `k`: the displacement just read, or what it held where none is read. -/
def State.dispAfter (s : State) (k : MemMod) : Option Int :=
  match k with
  | .m0 => s.disp
  | .m1 => s.dispAt .m1
  | .m2 => s.dispAt .m2

/-- The state after a row stored a memory operand with the displacement of `k` in slot `i` of the array `l`. -/
def memState (s : State) (k : MemMod) (i : Nat) (l : List (Option Operand)) (e : MemoryExpr) : State :=
  { s with
    pos := s.pos + k.dispBytes
    disp := s.dispAfter k
    slots := some (l.set i (some (.mem e)))
    stage := .fixed }

/-- The opcode bytes of an opcode row under given parameters. -/
def opcodeOf (p : Params) : Row → Option OpcBytes
  | .oneByte o1 | .cell o1 => some (.one o1)
  | .twoByte o2 => some (.two p.esc o2)
  | .threeByteA o3 => some (.threeA p.esc p.selA o3)
  | .threeByteB o3 => some (.threeB p.esc p.selB o3)
  | .pfx _ | .rexByte _ _ _ _ | .reg _ _ _ | .direct _ _ | .follows _ | .mem _ _ _ | .sib _ _ _ _ _ => none

/-- The table cell that opcode bytes select (30_encoding.md R106; table pairing by 92 D6). -/
def cellOf (p : Params) : OpcBytes → Option OpcodeDescriptor
  | .one o1 => p.t1.get o1
  | .two _ o2 => p.t2.get o2
  | .threeA _ _ o3 => p.t3a.get o3
  | .threeB _ _ o3 => p.t3b.get o3

/-! ## The parts of a call in the buffer -/

/-- Exactly `n` prefix bytes stand at the cursor: the byte after them is none (40_prefix_scanner.md R140). -/
def State.prefixBytesAre (s : State) (n : Nat) : Prop :=
  (∀ k, k < n → (s.cfg.prefixOf (s.buf.read (s.pos + k))).isSome = true) ∧ s.cfg.prefixOf (s.buf.read (s.pos + n)) = none

/-- REX of the byte at address `a`: absent unless its high nibble is 0100 (41_rex_decoder.md R160). -/
def State.rexAt (s : State) (a : Nat) : Option RexFlags :=
  let v := s.buf.read a
  if v.toNat / 16 = 4 then
    some { w := v.getLsbD 3, r := v.getLsbD 2, x := v.getLsbD 1, b := v.getLsbD 0 }
  else none

/-- The opcode bytes at address `a`, by their shape (30_encoding.md R106). -/
def State.opcodeAt (s : State) (a : Nat) : OpcBytes :=
  let o1 := s.buf.read a
  let o2 := s.buf.read (a + 1)
  let o3 := s.buf.read (a + 2)
  if o1 ≠ s.cfg.esc then .one o1
  else if o2 = s.cfg.selA then .threeA o1 o2 o3
  else if o2 = s.cfg.selB then .threeB o1 o2 o3
  else .two o1 o2

/-- Displacement bytes after a ModRM byte, and after its SIB byte where it has one; `base5` is the answer of the SIB base-5
test (30_encoding.md R109). -/
def dispLength (v : ModRM) (base5 : Bool) : Nat :=
  match v.mod.toNat with
  | 1 => 1
  | 2 => 4
  | 0 => if v.hasSib && base5 then 4 else 0
  | _ => 0

/-! ## Runs -/

/-- No move of the caller reaches the block while a call is in progress (20_memory.md R84). -/
def State.quiet (s : State) : Bool :=
  match s.host with
  | .reset :: _ => false
  | .start :: _ => false
  | [] => true
  | .await :: _ => true
  | .setPos _ :: _ => true
  | .load _ _ :: _ => true

/-- `n` steps, stopping at the first fault or refusal. -/
def runSteps : Nat → State → Result
  | 0, s => .next s
  | n + 1, s =>
    match step s with
    | .next t => runSteps n t
    | .fault r => .fault r
    | .refused r => .refused r

/-- An output with its side output, where there is one, seen through `f`. -/
def Output.mapSide (f : Side → Side) (o : Output) : Output :=
  { o with side := o.side.map f }

/-- A state without PFX and without the PFX half of the side output; whether the side output is shown, and its REX half,
stay. -/
def State.withoutPfx (s : State) : State :=
  { s with pfx := PrefixSet.empty, out := s.out.map (Output.mapSide fun x => { x with pfx := PrefixSet.empty }) }

/-- A state without REX and without the REX half of the side output; whether the side output is shown, and its PFX half,
stay. -/
def State.withoutRex (s : State) : State :=
  { s with rex := none, out := s.out.map (Output.mapSide fun x => { x with rex := none }) }

/-- An outcome with its state seen through `f`. -/
def mapNext (f : State → State) : Result → Result
  | .next s => .next (f s)
  | .fault r => .fault r
  | .refused r => .refused r

end Machine

end Sys2Proof
end

