-- ==== Sys2Proof/Certificates/Slice0/Obligations.lean ====
section
/-! DEFINITION. The statements for the provers. Spec rules are cited by number; the terms used are in Safety.lean.
A clause that rests on a decision of the spec (92_eei_decisions.md) or on a log entry of this model says so. -/

open Sys2Proof Sys2Proof.Machine

/-! ## Encoding -/

/-- Decode and encode agree: every well-formed instruction, read where its row is read, under any parameters, with any
value of the ModRM `reg` bits its row leaves free and any bytes after it, decodes to itself (30_encoding.md R103 to
R108, R120). -/
def Obligations.DecodeReadsEveryEncoding : Prop :=
  ∀ (p : Params) (c : Ctx) (i : Instr) (reg : BitVec 3) (rest : List Byte),
    i.wellFormed p = true → c.admits p i = true → decode p c (encodeWith reg p i ++ rest) = .ok i

/-- The other direction: what the decoder reads is a well-formed instruction at a place its row admits, and the bytes
begin with its encoding. One byte per prefix flag, as the default list has it. -/
def Obligations.DecodedBytesAreTheEncoding : Prop :=
  ∀ (p : Params) (c : Ctx) (bytes : List Byte) (i : Instr),
    p.oneBytePerFlag → decode p c bytes = .ok i →
      i.wellFormed p = true ∧ c.admits p i = true ∧ ∃ reg rest, bytes = encodeWith reg p i ++ rest

/-- No byte string is reserved (30_encoding.md R115 to R118; 93 U10): with three bytes at hand every stage that reads the
stream reads a row, and every ModRM byte, and every SIB byte after a ModRM byte that has one, is a row. -/
def Obligations.EveryByteStringIsARow : Prop :=
  ∀ (p : Params) (c : Ctx) (b0 b1 b2 : Byte) (rest : List Byte),
    (c.stage = .scan ∨ c.stage = .opcode ∨ c.stage = .modrm ∨ c.stage = .rm ∨
        (c.stage = .sib ∧ (ModRM.ofByte b0).hasSib = true)) →
      ∃ i, decode p c (b0 :: b1 :: b2 :: rest) = .ok i

/-- Words written out from the spec's encodings decode to the rows they stand for, one or more for every family
(30_encoding.md R104 to R108, R112; byte values by 92 D5 and D6). -/
def Obligations.SpecWordsDecode : Prop :=
  let at_ (st : Stage) (x b m : Bool) (bytes : List Byte) : Except Reject Instr :=
    decode Params.default { stage := st, rexX := x, rexB := b, memOnly := m } bytes
  at_ .scan false false false [0b11110000#8] = .ok .pfxLock ∧
  at_ .scan false false false [0b00101110#8] = .ok .pfxCs ∧
  at_ .scan false false false [0b01100111#8] = .ok .pfxAddrsize ∧
  at_ .scan false false false [0b01001001#8] = .ok (.rex true false false true) ∧
  at_ .scan false false false [0b10010000#8] = .ok (.opcOneByte 0x90#8) ∧
  at_ .scan false false false [0b11000011#8] = .ok .t1C3 ∧
  at_ .opcode false false false [0b10001001#8] = .ok .t189 ∧
  at_ .opcode false false false [0b01100110#8] = .ok (.opcOneByte 0x66#8) ∧
  at_ .scan false false false [0b00001111#8, 0b10101111#8] = .ok (.escTwoByte 0xAF#8) ∧
  at_ .scan false false false [0b00001111#8, 0b00111000#8, 0b00000000#8] = .ok (.escThreeByteA 0#8) ∧
  at_ .scan false false false [0b00001111#8, 0b00111010#8, 0b00001111#8] = .ok (.escThreeByteB 0x0F#8) ∧
  at_ .modrm false false false [0b11011000#8] = .ok (.modrmReg 3#2 3#3 0#3) ∧
  at_ .rm false false true [0b11000000#8] = .ok (.modrmRegdirectInvalid 0#3) ∧
  at_ .rm true true false [0b11011100#8] = .ok (.modrmRegdirect 4#3) ∧
  at_ .rm false true false [0b01000100#8] = .ok .modrmSibFollowsMod1 ∧
  at_ .rm true false false [0b10000000#8] = .ok .modrmMemMod2Rm0Rexx ∧
  at_ .rm false false false [0b00000101#8] = .ok .modrmMemMod0Rm5 ∧
  at_ .sib false false false [0b00000100#8, 0b11011000#8] = .ok (.sibMod0Idx3Bs0 3#2) ∧
  at_ .sib false false false [0b01000100#8, 0b00100101#8] = .ok (.sibMod1Idx4Bs5B5 0#2) ∧
  at_ .sib true true false [0b10000100#8, 0b00001101#8] = .ok (.sibMod2Idx1Bs5B13 0#2)

/-! ## The step -/

/-- A step runs the decoded form: while a call is in progress and the caller is blocked, when the bytes at hand decode
to `i`, the step is `exec i`. Nothing is added around it. That a step is one row is the model's choice (log 7). -/
def Obligations.StepRunsTheDecodedForm : Prop :=
  ∀ (s : State) (i : Instr),
    s.stage ≠ .idle → s.stage ≠ .fixed → s.quiet = true → decode s.cfg s.ctx s.formBytes = .ok i →
      step s = exec i s

/-- The bytes at hand: at the stages that read the stream, the bytes at the cursor, three of them or as many as remain;
at the rm operand the ModRM byte read before, at the SIB form that byte and the SIB byte (20_memory.md R62, R71). -/
def Obligations.FormBytesAreAtTheCursor : Prop :=
  (∀ s : State, (s.stage = .scan ∨ s.stage = .opcode ∨ s.stage = .modrm) → ∀ k : Nat,
      s.formBytes[k]? = if k < 3 ∧ s.pos + k < s.len then some (s.buf.read (s.pos + k)) else none) ∧
  (∀ (s : State) (v : Byte), s.stage = .rm → s.modrm = some (ModRM.ofByte v) → s.formBytes = [v]) ∧
  (∀ (s : State) (v x : Byte), s.stage = .sib → s.modrm = some (ModRM.ofByte v) → s.sib = some (Sib.ofByte x) →
      s.formBytes = [v, x])

/-- A stage that needs a byte past the end raises Truncated, before any table is asked (42_opcode_resolver.md R177;
60_exceptions.md R285 a, b, c): no byte left at all; ESC the last byte; ESC and a selector the last two. The side
outputs are shown unless PFXSCAN itself ran out of bytes. POS after the error is the model's free draw (log 1), and
when the side outputs are shown is log 14. -/
def Obligations.MissingBytesRaiseTruncated : Prop :=
  (∀ s : State, (s.stage = .scan ∨ s.stage = .opcode ∨ s.stage = .modrm) → s.quiet = true → s.len ≤ s.pos →
      step s = .next (errorState s (if s.stage = .scan then none else some { pfx := s.pfx, rex := s.rex }) .truncated)) ∧
  (∀ s : State, (s.stage = .opcode ∨ (s.stage = .scan ∧ s.cfg.prefixOf s.cfg.esc = none ∧ isRexByte s.cfg.esc = false)) →
      s.quiet = true → s.buf.read s.pos = s.cfg.esc →
      (s.len = s.pos + 1 ∨
        (s.len = s.pos + 2 ∧ (s.buf.read (s.pos + 1) = s.cfg.selA ∨ s.buf.read (s.pos + 1) = s.cfg.selB))) →
      step s = .next (errorState s (some { pfx := s.pfx, rex := s.rex }) .truncated))

/-- REXDEC: after the prefixes, a byte whose high nibble is 0100 is consumed and its four low bits are REX; any other byte
is left un-consumed and the opcode begins with it (41_rex_decoder.md R160, R162). -/
def Obligations.RexDecoderReadsOneOptionalByte : Prop :=
  ∀ s : State, s.stage = .scan → s.quiet = true → s.pos < s.len → s.cfg.prefixOf (s.buf.read s.pos) = none →
    let v := s.buf.read s.pos
    (v.toNat / 16 = 4 →
      step s = .next { s with
        rex := some { w := v.getLsbD 3, r := v.getLsbD 2, x := v.getLsbD 1, b := v.getLsbD 0 }
        pos := s.pos + 1, stage := .opcode }) ∧
    (v.toNat / 16 ≠ 4 → step s = step { s with stage := .opcode })

/-- What follows a REX byte is the opcode whatever it is: a legacy prefix or a second REX byte too, under any parameters
(41_rex_decoder.md R163; 30_encoding.md R118). -/
def Obligations.AfterRexEveryByteIsAnOpcode : Prop :=
  ∀ (s : State) (o1 : Byte), s.stage = .opcode → s.quiet = true → s.pos < s.len → s.buf.read s.pos = o1 →
    o1 ≠ s.cfg.esc →
      step s = exec (if o1 = 0xC3#8 then .t1C3 else if o1 = 0x89#8 then .t189 else .opcOneByte o1) s

/-! ## Results of the rows -/

/-- Every PREFIX row completes: its flag of PFX is 1, the other flags are as before, one byte is consumed, nothing else
changes; the list says which flag each row names (40_prefix_scanner.md R140, R142 to R153; 30_encoding.md R104). -/
def Obligations.PrefixRowsSetTheirFlag : Prop :=
  ∀ (s : State) (q : Instr × PfxFlag), s.pos < s.len →
    q ∈ ([(.pfxLock, .lock), (.pfxCs, .cs), (.pfxSs, .ss), (.pfxDs, .ds),
      (.pfxEs, .es), (.pfxFs, .fs), (.pfxGs, .gs), (.pfxRepne, .repne),
      (.pfxRep, .rep), (.pfxHintNotTaken, .hintNotTaken), (.pfxHintTaken, .hintTaken), (.pfxOpsize, .opsize),
      (.pfxAddrsize, .addrsize)] : List (Instr × PfxFlag)) →
    ∃ p : PrefixSet, exec q.1 s = .next { s with pfx := p, pos := s.pos + 1 } ∧
      ∀ g, p.get g = (decide (g = q.2) || s.pfx.get g)

/-- The REX row completes: REX holds the four bits, one byte is consumed, the opcode is next (41_rex_decoder.md R160,
R163). -/
def Obligations.RexRowWritesRex : Prop :=
  ∀ (s : State) (w r x b : Bool), s.pos < s.len →
    exec (.rex w r x b) s =
      .next { s with rex := some { w := w, r := r, x := x, b := b }, pos := s.pos + 1, stage := .opcode }

/-- Every opcode row (OPC_ONE_BYTE, T1_C3, T1_89, ESC_TWO_BYTE, ESC_THREE_BYTE_A, ESC_THREE_BYTE_B) completes when its
bytes are there and its table holds a well-formed descriptor: the bytes are consumed, OPC and DESC are written, as many
empty slots as operands are allocated, and AMODE is next if the descriptor has ModRM, else FIXRES
(42_opcode_resolver.md R170 to R174, R178; 46_orchestrator.md R261, R262; table pairing by 92 D6). -/
def Obligations.OpcodeRowsResolveTheirDescriptor : Prop :=
  ∀ (s : State) (d : OpcodeDescriptor), d.wf s.cfg.nslot = true →
    (∀ o1, s.pos + 1 ≤ s.len → s.cfg.t1.get o1 = some d →
      exec (.opcOneByte o1) s = .next (resolvedState s (.one o1) 1 d)) ∧
    (s.pos + 1 ≤ s.len → s.cfg.t1.get 0xC3#8 = some d → exec .t1C3 s = .next (resolvedState s (.one 0xC3#8) 1 d)) ∧
    (s.pos + 1 ≤ s.len → s.cfg.t1.get 0x89#8 = some d → exec .t189 s = .next (resolvedState s (.one 0x89#8) 1 d)) ∧
    (∀ o2, s.pos + 2 ≤ s.len → s.cfg.t2.get o2 = some d →
      exec (.escTwoByte o2) s = .next (resolvedState s (.two s.cfg.esc o2) 2 d)) ∧
    (∀ o3, s.pos + 3 ≤ s.len → s.cfg.t3a.get o3 = some d →
      exec (.escThreeByteA o3) s = .next (resolvedState s (.threeA s.cfg.esc s.cfg.selA o3) 3 d)) ∧
    (∀ o3, s.pos + 3 ≤ s.len → s.cfg.t3b.get o3 = some d →
      exec (.escThreeByteB o3) s = .next (resolvedState s (.threeB s.cfg.esc s.cfg.selB o3) 3 d))

/-- Every opcode row whose bytes are there and whose table has no entry raises UnknownOpcode: an error, not a default;
nothing is read after the opcode bytes (42_opcode_resolver.md R175). POS after the error is the model's free draw (log
1), and when the side outputs are shown is log 14. -/
def Obligations.MissingEntryIsUnknownOpcode : Prop :=
  ∀ (s : State) (i : Instr) (o : OpcBytes), opcodeOf s.cfg i.row = some o → s.pos + i.row.consumes ≤ s.len →
    cellOf s.cfg o = none →
      exec i s = .next (errorState s (some { pfx := s.pfx, rex := s.rex }) .unknownOpcode)

/-- A resolved descriptor that is not well-formed is refused by name: neither a result nor an error (10_state.md R41; the
spec's decision 92 D13, log 13). -/
def Obligations.IllFormedDescriptorIsRefused : Prop :=
  ∀ (s : State) (i : Instr) (o : OpcBytes) (d : OpcodeDescriptor),
    opcodeOf s.cfg i.row = some o → s.pos + i.row.consumes ≤ s.len →
    cellOf s.cfg o = some d →
    d.wf s.cfg.nslot = false → exec i s = .refused .illFormedDescriptor

/-- Opcode resolution is a pure function of the opcode bytes: two states with the same tables, whatever else differs (PFX,
REX, the bytes that follow, earlier calls), resolve one opcode row to the same descriptor, or both raise UnknownOpcode
(42_opcode_resolver.md R176). -/
def Obligations.OpcodeResolutionIsPure : Prop :=
  ∀ (s s' t t' : State) (i : Instr) (o : OpcBytes),
    s.cfg = s'.cfg → opcodeOf s.cfg i.row = some o →
    s.pos + i.row.consumes ≤ s.len → s'.pos + i.row.consumes ≤ s'.len →
    exec i s = .next t → exec i s' = .next t' →
      t.desc = t'.desc ∧
        (t.stage = .idle ∧ t.result = some (.error .unknownOpcode) ↔
          t'.stage = .idle ∧ t'.result = some (.error .unknownOpcode))

/-- MODRM_REG completes: the ModRM byte is consumed, MODRM holds its fields, and the slot of DESC.r is the register `reg`
extended by REX.r, of the operand's class and the width rule (43_addressing_mode.md R190, R191; class and width by 92
D9, D10). -/
def Obligations.RegRowStoresTheRegOperand : Prop :=
  ∀ (s : State) (mod : BitVec 2) (reg rm : BitVec 3) (d : OpcodeDescriptor) (o : OperandDescriptor)
    (l : List (Option Operand)),
    s.desc = some d → d.deref d.r = some o → s.slots = some l → s.pos < s.len →
      exec (.modrmReg mod reg rm) s = .next { s with
        pos := s.pos + 1, modrm := some { mod := mod, reg := reg, rm := rm }
        slots := some (l.set o.index (some (.reg (s.registerOf o.kind reg s.rexR)))), stage := .rm }

/-- MODRM_REGDIRECT completes: the slot of `op` is the register `rm` extended by REX.b, whatever REX.x is, and FIXRES is
next; no byte is consumed (43_addressing_mode.md R193, R197; class and width by 92 D9, D10). -/
def Obligations.RegdirectRowStoresARegister : Prop :=
  ∀ (s : State) (rm : BitVec 3) (d : OpcodeDescriptor) (o : OperandDescriptor) (l : List (Option Operand)),
    s.desc = some d → d.deref d.opRole = some o → s.slots = some l →
      exec (.modrmRegdirect rm) s = .next { s with
        slots := some (l.set o.index (some (.reg (s.registerOf o.kind rm s.rexB)))), stage := .fixed }

/-- MODRM_REGDIRECT_INVALID and the twenty-one MODRM_MEM rows with REX.x raise InvalidEncoding, from every state
(43_addressing_mode.md R195, R196). POS after the error is the model's free draw (log 1), and when the side outputs
are shown is log 14. -/
def Obligations.InvalidRowsRaiseInvalidEncoding : Prop :=
  ∀ (s : State) (i : Instr),
    ((∃ rm, i.row = .direct true rm) ∨ (∃ k rm, i.row = .mem k rm true)) →
      exec i s =
        .next (errorState s (if s.stage = .scan then none else some { pfx := s.pfx, rex := s.rex }) .invalidEncoding)

/-- A memory form without SIB under REX.x is InvalidEncoding, checked before any displacement is read: with the
displacement missing it is not Truncated (43_addressing_mode.md R195; 60_exceptions.md R287 b, R288 row 5c). POS after
the error is the model's free draw (log 1), and when the side outputs are shown is log 14. -/
def Obligations.RexXWithoutSibIsInvalid : Prop :=
  ∀ (s : State) (v : ModRM), s.stage = .rm → s.quiet = true → s.modrm = some v → v.mod ≠ 3#2 → v.rm ≠ 4#3 →
    s.rexX = true → step s = .next (errorState s (some { pfx := s.pfx, rex := s.rex }) .invalidEncoding)

/-- `mod == 3` when the descriptor has an `m` operand is InvalidEncoding; without one it is a register, never a memory
expression, REX.x set or not (43_addressing_mode.md R196, R197; 60_exceptions.md R287 a). POS after the error is the
model's free draw (log 1), and when the side outputs are shown is log 14. -/
def Obligations.RegisterFormOfMemoryOnlyOpcodeIsInvalid : Prop :=
  ∀ (s : State) (v : ModRM) (d : OpcodeDescriptor),
    s.stage = .rm → s.quiet = true → s.modrm = some v → v.mod = 3#2 → s.desc = some d →
      (d.m.isSome = true → step s = .next (errorState s (some { pfx := s.pfx, rex := s.rex }) .invalidEncoding)) ∧
      (d.m.isSome = false → step s = exec (.modrmRegdirect v.rm) s)

/-- InvalidEncoding has exactly two causes: `mod == 3` when the descriptor has an `m` operand, and REX.x with a memory form
without SIB (30_encoding.md R116). -/
def Obligations.InvalidEncodingHasExactlyTwoCauses : Prop :=
  ∀ s : State, s.stage ≠ .idle → s.quiet = true →
    ((∃ t, step s = .next t ∧ t.stage = .idle ∧ t.result = some (.error .invalidEncoding)) ↔
      s.stage = .rm ∧ ∃ v, s.modrm = some v ∧
        ((v.mod = 3#2 ∧ ∃ d, s.desc = some d ∧ d.m.isSome = true) ∨
          (v.mod ≠ 3#2 ∧ v.rm ≠ 4#3 ∧ s.rexX = true)))

/-- The "SIB follows" rows complete: the SIB byte is consumed and split, the SIB form is next (44_sib.md R220). -/
def Obligations.SibFollowsRowsReadTheSibByte : Prop :=
  ∀ (s : State) (i : Instr) (k : MemMod), i.row = .follows k → s.pos < s.len →
    ∃ x : Sib, exec i s = .next { s with pos := s.pos + 1, sib := some x, stage := .sib } ∧
      x.ss.toNat * 64 + x.idx.toNat * 8 + x.bs.toNat = (s.buf.read s.pos).toNat

/-- The seven no-SIB memory rows with `mod` 0 complete: the base register alone, raw `rm` 5 included, no displacement
read (43_addressing_mode.md R198, R200; class and width of the base by 92 D8). -/
def Obligations.NoSibRowsMod0StoreTheBase : Prop :=
  ∀ (s : State) (i : Instr) (rm : BitVec 3) (d : OpcodeDescriptor) (o : OperandDescriptor) (l : List (Option Operand)),
    i.row = .mem .m0 rm false → s.desc = some d → d.deref d.opRole = some o → s.slots = some l →
      exec i s = .next (memState s .m0 o.index l
        { base := some (s.registerOf o.kind rm s.rexB), index := none, disp := none
          lst := [.r (s.registerOf o.kind rm s.rexB)] })

/-- The fourteen no-SIB memory rows with `mod` 1 and 2 complete when the displacement is there: base register and signed
displacement, a displacement of 0 kept (43_addressing_mode.md R199; byte order by 92 D1, base by 92 D8). -/
def Obligations.NoSibRowsMod12StoreBaseAndDisplacement : Prop :=
  ∀ (s : State) (i : Instr) (k : MemMod) (rm : BitVec 3) (d : OpcodeDescriptor) (o : OperandDescriptor)
    (l : List (Option Operand)) (x : Int),
    i.row = .mem k rm false → s.desc = some d → d.deref d.opRole = some o → s.slots = some l →
    s.pos + k.dispBytes ≤ s.len → s.dispAt k = some x →
      exec i s = .next (memState s k o.index l
        { base := some (s.registerOf o.kind rm s.rexB), index := none, disp := some x
          lst := [.r (s.registerOf o.kind rm s.rexB), .d x] })

/-- The SIB rows with `mod` 0 whose base is not 5 (SIB_MOD0_IDX*_BS* but the BS5_B5 rows) complete: base, and the index
term if raw `idx` is not 4 (44_sib.md R222, R223; base by 92 D8, the test by 92 D7). -/
def Obligations.SibRowsMod0StoreBaseAndIndex : Prop :=
  ∀ (s : State) (i : Instr) (idx bs : BitVec 3) (ss : BitVec 2) (d : OpcodeDescriptor) (o : OperandDescriptor)
    (l : List (Option Operand)),
    i.row = .sib .m0 idx bs false ss → s.desc = some d → d.deref d.opRole = some o → s.slots = some l →
      exec i s = .next (memState s .m0 o.index l
        { base := some (s.registerOf o.kind bs s.rexB), index := s.indexOf o.kind idx ss, disp := none
          lst := [.r (s.registerOf o.kind bs s.rexB)] ++
            (match s.indexOf o.kind idx ss with
              | none => []
              | some t => if t.scale.toNat = 1 then [.r t.reg] else [.sr t.scale t.reg]) })

/-- The SIB rows with `mod` 1 and 2 whose base is not 5 complete when the displacement is there: base, index term if any,
displacement (44_sib.md R222, R224; byte order by 92 D1, base by 92 D8, the test by 92 D7). -/
def Obligations.SibRowsMod12StoreBaseIndexAndDisplacement : Prop :=
  ∀ (s : State) (i : Instr) (k : MemMod) (idx bs : BitVec 3) (ss : BitVec 2) (d : OpcodeDescriptor)
    (o : OperandDescriptor) (l : List (Option Operand)) (x : Int),
    i.row = .sib k idx bs false ss → s.desc = some d → d.deref d.opRole = some o → s.slots = some l →
    s.pos + k.dispBytes ≤ s.len → s.dispAt k = some x →
      exec i s = .next (memState s k o.index l
        { base := some (s.registerOf o.kind bs s.rexB), index := s.indexOf o.kind idx ss, disp := some x
          lst := [.r (s.registerOf o.kind bs s.rexB)] ++
            (match s.indexOf o.kind idx ss with
              | none => []
              | some t => if t.scale.toNat = 1 then [.r t.reg] else [.sr t.scale t.reg]) ++ [.d x] })

/-- The base-5 SIB rows with `mod` 0 (SIB_MOD0_IDX*_BS5_B5) complete when four bytes are there: no base register, the index
term if any, a 4-byte displacement (44_sib.md R226; byte order by 92 D1). -/
def Obligations.SibBase5RowsMod0StoreNoBase : Prop :=
  ∀ (s : State) (i : Instr) (idx : BitVec 3) (ss : BitVec 2) (d : OpcodeDescriptor) (o : OperandDescriptor)
    (l : List (Option Operand)) (x : Int),
    i.row = .sib .m0 idx 5#3 true ss → s.desc = some d → d.deref d.opRole = some o → s.slots = some l →
    s.pos + 4 ≤ s.len → s.dispAt .m2 = some x →
      exec i s = .next (memState s .m2 o.index l
        { base := none, index := s.indexOf o.kind idx ss, disp := some x
          lst := (match s.indexOf o.kind idx ss with
              | none => []
              | some t => if t.scale.toNat = 1 then [.r t.reg] else [.sr t.scale t.reg]) ++ [.d x] })

/-- The base-5 SIB rows with `mod` 1 and 2 (SIB_MOD1_IDX*_BS5_B5, SIB_MOD2_IDX*_BS5_B5) complete when the displacement is
there: base register 5 is present, and stands last in the list view (44_sib.md R227; byte order by 92 D1). The
register is the extended base: it is register 5 with REX.b 0, where the default test reads these rows; log 16 for the
raw test. -/
def Obligations.SibBase5RowsMod12StoreRegisterFive : Prop :=
  ∀ (s : State) (i : Instr) (k : MemMod) (idx : BitVec 3) (ss : BitVec 2) (d : OpcodeDescriptor)
    (o : OperandDescriptor) (l : List (Option Operand)) (x : Int),
    i.row = .sib k idx 5#3 true ss → k ≠ .m0 → s.desc = some d → d.deref d.opRole = some o → s.slots = some l →
    s.pos + k.dispBytes ≤ s.len → s.dispAt k = some x →
      exec i s = .next (memState s k o.index l
        { base := some (s.registerOf o.kind 5#3 s.rexB), index := s.indexOf o.kind idx ss, disp := some x
          lst := (match s.indexOf o.kind idx ss with
              | none => []
              | some t => if t.scale.toNat = 1 then [.r t.reg] else [.sr t.scale t.reg]) ++
            [.d x, .r (s.registerOf o.kind 5#3 s.rexB)] }) ∧
      (s.rexB = false → (s.registerOf o.kind 5#3 s.rexB).idx = 5#4)

/-- A row whose bytes are not all there raises Truncated, whichever row it is: ModRM, SIB, a displacement of which 1
to 3 bytes remain, an opcode, a prefix or REX byte (60_exceptions.md R285; 20_memory.md R62). POS after the error is
the model's free draw (log 1), and when the side outputs are shown is log 14. -/
def Obligations.RowsShortOfBytesRaiseTruncated : Prop :=
  ∀ (s : State) (i : Instr), (i.row.buildsMem = true → s.opRole.isSome = true) → s.pos ≤ s.len →
    s.len < s.pos + i.row.consumes →
    ∃ side, exec i s = .next (errorState s side .truncated) ∧
      (s.stage ≠ .scan → side = some { pfx := s.pfx, rex := s.rex })

/-- Without an index term a SIB form is the no-SIB form: with raw `idx` 4 and a base that is not 5, the row leaves exactly
the state the no-SIB row of the same register leaves, list view included, whatever `ss` is; the base-5 rows with `mod`
1 and 2 leave the same record, their list view apart; and no SIB row with raw `idx` 4 leaves an index term (44_sib.md
R228). -/
def Obligations.SibWithoutIndexIsTheNoSibForm : Prop :=
  (∀ (s : State) (i j : Instr) (k : MemMod) (bs : BitVec 3) (ss : BitVec 2),
    i.row = .sib k 4#3 bs false ss → j.row = .mem k bs false → exec i s = exec j s) ∧
  (∀ (s t u : State) (i j : Instr) (k : MemMod) (ss : BitVec 2) (o : OperandDescriptor) (e f : MemoryExpr)
    (l m : List (Option Operand)),
    i.row = .sib k 4#3 5#3 true ss → j.row = .mem k 5#3 false → k ≠ .m0 → s.opRole = some o →
    exec i s = .next t → exec j s = .next u → t.slots = some l → u.slots = some m →
    l[o.index]? = some (some (.mem e)) → m[o.index]? = some (some (.mem f)) →
      e.base = f.base ∧ e.index = f.index ∧ e.disp = f.disp ∧ t.pos = u.pos) ∧
  (∀ (s t : State) (i : Instr) (k : MemMod) (bs : BitVec 3) (b5 : Bool) (ss : BitVec 2) (o : OperandDescriptor)
    (e : MemoryExpr) (l : List (Option Operand)),
    i.row = .sib k 4#3 bs b5 ss → s.opRole = some o → exec i s = .next t → t.slots = some l →
    l[o.index]? = some (some (.mem e)) → e.index = none)

/-! ## Frames -/

/-- The block writes no memory: no row, and no step of a call, FIXRES and the return among them, changes a byte of the
buffer, its length, or a table; a row leaves the caller's moves alone too (20_memory.md R61). -/
def Obligations.RowsWriteNoMemory : Prop :=
  (∀ (s t : State) (i : Instr), exec i s = .next t →
    t.buf = s.buf ∧ (∀ a, t.buf.read a = s.buf.read a) ∧ t.len = s.len ∧ t.cfg = s.cfg ∧ t.host = s.host) ∧
  (∀ s t : State, s.stage ≠ .idle → step s = .next t →
    (∀ a, t.buf.read a = s.buf.read a) ∧ t.buf = s.buf ∧ t.len = s.len ∧ t.cfg = s.cfg)

/-- The frame of every row: where it goes on, only the registers its rule writes may differ; where it does not, the
call has ended with an error and the state is the one an error leaves. POS after the error is the model's free draw
(log 1). -/
def Obligations.RowsChangeOnlyTheirRegisters : Prop :=
  ∀ (s t : State) (i : Instr), exec i s = .next t →
    (∃ side e, t = errorState s side e) ∨
    (match i.row with
      | .pfx _ => t = { s with pfx := t.pfx, pos := s.pos + 1 }
      | .rexByte _ _ _ _ => t = { s with rex := t.rex, pos := s.pos + 1, stage := .opcode }
      | .oneByte _ | .cell _ =>
        t = { s with pos := s.pos + 1, opc := t.opc, desc := t.desc, slots := t.slots, stage := t.stage }
      | .twoByte _ =>
        t = { s with pos := s.pos + 2, opc := t.opc, desc := t.desc, slots := t.slots, stage := t.stage }
      | .threeByteA _ | .threeByteB _ =>
        t = { s with pos := s.pos + 3, opc := t.opc, desc := t.desc, slots := t.slots, stage := t.stage }
      | .reg _ _ _ => t = { s with pos := s.pos + 1, modrm := t.modrm, slots := t.slots, stage := .rm }
      | .direct _ _ => t = { s with slots := t.slots, stage := .fixed }
      | .follows _ => t = { s with pos := s.pos + 1, sib := t.sib, stage := .sib }
      | .mem _ _ _ | .sib _ _ _ _ _ =>
        t = { s with pos := s.pos + i.row.consumes, disp := t.disp, slots := t.slots, stage := .fixed })

/-- A row writes no slot but the one its rule names: MODRM_REG the slot of DESC.r, MODRM_REGDIRECT, the memory rows and the
SIB rows the slot of `op`; the PREFIX, REX and "SIB follows" rows none; an opcode row allocates as many empty slots as
its descriptor has operands. Every other slot is as before (10_state.md R22; 46_orchestrator.md R262). -/
def Obligations.RowsWriteOneSlot : Prop :=
  ∀ (s t : State) (i : Instr) (l m : List (Option Operand)),
    exec i s = .next t → s.slots = some l → t.slots = some m →
      match i.row with
      | .pfx _ | .rexByte _ _ _ _ | .follows _ => m = l
      | .reg _ _ _ => ∃ o v, s.regRole = some o ∧ m = l.set o.index (some v) ∧ ∀ k, k ≠ o.index → m[k]? = l[k]?
      | .direct _ _ | .mem _ _ _ | .sib _ _ _ _ _ =>
        ∃ o v, s.opRole = some o ∧ m = l.set o.index (some v) ∧ ∀ k, k ≠ o.index → m[k]? = l[k]?
      | .oneByte _ | .cell _ | .twoByte _ | .threeByteA _ | .threeByteB _ =>
        ∃ d, t.desc = some d ∧ m = List.replicate d.operands.length none

/-! ## FIXRES and the return -/

/-- FIXRES: at the last stage, with a well-formed descriptor and every slot that ModRM decoding owes filled, the call
returns OK; each FIXED slot holds the literal REX.b selects of two, or the single one; no other slot is overwritten;
the record is the type and the slots in order, and the cursor does not move (45_fixed_operand.md R250, R251, R254;
46_orchestrator.md R260; 10_state.md R44). That FIXRES and the return are one step is the model's choice (log 15). -/
def Obligations.FixresFillsTheFixedSlots : Prop :=
  ∀ (s : State) (d : OpcodeDescriptor) (l : List (Option Operand)),
    s.stage = .fixed → s.quiet = true → s.desc = some d → d.wf s.cfg.nslot = true → s.slots = some l →
    l.length = d.operands.length →
    (∀ o, o ∈ d.operands → o.kind ≠ .fixed → ∃ v, l[o.index]? = some (some v)) →
      ∃ t ops, step s = .next t ∧ t.result = some (.ok { tag := d.tag, operands := ops }) ∧
        ops.length = d.operands.length ∧ t.pos = s.pos ∧ t.stage = .idle ∧ t.buf = s.buf ∧ t.cfg = s.cfg ∧
        ∀ o, o ∈ d.operands →
          (o.kind ≠ .fixed → ∀ v, l[o.index]? = some (some v) → ops[o.index]? = some v) ∧
          (o.kind = .fixed → ∀ l1, o.alt1 = some l1 → s.rexB = true → ops[o.index]? = some (.lit l1)) ∧
          (o.kind = .fixed → ∀ l0, o.alt0 = some l0 → (o.alt1 = none ∨ s.rexB = false) →
            ops[o.index]? = some (.lit l0))

/-! ## The cursor primitives -/

/-- Every primitive that needs `n` bytes fails with Truncated exactly when fewer remain, peek included; POS is then
unreliable, a free draw within 0..LEN (the model's draw, log 1), and nothing else changes; `MemRead` is defined exactly
when its bytes are in the buffer, and lists them lowest address first (20_memory.md R62 and section 2; 10_state.md R33). -/
def Obligations.PrimitivesFailExactlyWhenBytesAreMissing : Prop :=
  ∀ s : State,
    ((s.cursorPort .peek).1 = .truncated ↔ s.len < s.pos + 1) ∧
    (∀ n, (s.cursorPort (.skip n)).1 = .truncated ↔ s.len < s.pos + n) ∧
    ((s.cursorPort .readU8).1 = .truncated ↔ s.len < s.pos + 1) ∧
    ((s.cursorPort .readI8).1 = .truncated ↔ s.len < s.pos + 1) ∧
    ((s.cursorPort .readI32).1 = .truncated ↔ s.len < s.pos + 4) ∧
    (∀ q, (s.cursorPort q).1 = .truncated →
      (s.cursorPort q).2 =
        { s with pos := Config.posAfterError s.drawn % (s.len + 1), drawn := s.drawn + 1 } ∧
      (s.cursorPort q).2.pos ≤ s.len) ∧
    (∀ a n, 1 ≤ n → (s.memRead a n = none ↔ s.len < a + n)) ∧
    (∀ a n bytes, s.memRead a n = some bytes →
      bytes.length = n ∧ ∀ k, k < n → bytes[k]? = some (s.buf.read (a + k)))

/-- What the primitives answer and how far they move the cursor: peek does not move it, `readI8` is the two's-complement
byte, `readI32` the little-endian two's-complement number, and nothing but POS changes (20_memory.md R64 to R68;
byte order by 92 D1). -/
def Obligations.PrimitivesAnswerTheBytes : Prop :=
  ∀ s : State,
    (s.pos < s.len →
      s.cursorPort .peek = (.byte (s.buf.read s.pos), s) ∧
      s.cursorPort .readU8 = (.byte (s.buf.read s.pos), { s with pos := s.pos + 1 }) ∧
      s.cursorPort .readI8 = (.signed (signed8 (s.buf.read s.pos)), { s with pos := s.pos + 1 })) ∧
    (∀ n, s.pos + n ≤ s.len → s.cursorPort (.skip n) = (.skipped, { s with pos := s.pos + n })) ∧
    (s.pos + 4 ≤ s.len →
      s.cursorPort .readI32 =
        (.signed (signed32 (s.buf.read s.pos) (s.buf.read (s.pos + 1)) (s.buf.read (s.pos + 2))
          (s.buf.read (s.pos + 3))), { s with pos := s.pos + 4 }))

/-! ## The outputs -/

/-- STATUS and the ports `done` and `side`: the step that ends a call shows STATUS 0 with the type, the operand count and
the operands in order, or the code of the error kind, 1 Truncated, 2 UnknownOpcode, 3 InvalidEncoding, with no payload; and
beside either, on `side`, the PFX of the call, whether REX is present, and its bits w, r, x and b (0 where it is absent);
only a call that runs out of bytes in the prefix scan shows nothing on `side`. The steps before it leave the three as they
are; after a reset none has a value (10_state.md R47, R48; 60_exceptions.md R281, R283; the codes by 92 D3, log 22; the
ports by 92 D2, log 26; PFX and REX shown at all by 92 D16, and when, log 14; how the port of a failed call is written,
log 14). -/
def Obligations.DoneShowsStatusAndResult : Prop :=
  ∀ s t : State, s.stage ≠ .idle → step s = .next t →
    (t.stage ≠ .idle → t.status = s.status ∧ t.donePort = s.donePort ∧ t.sidePort = s.sidePort) ∧
    (t.stage = .idle → s.quiet = true →
      t.sidePort =
        (if s.stage = .scan ∧ s.len ≤ s.pos then none
        else some { pfx := s.pfx, present := s.rex.isSome, w := s.rexW, r := s.rexR, x := s.rexX, b := s.rexB }) ∧
      ((∃ i, t.result = some (.ok i) ∧ t.status = some 0#2 ∧
        t.donePort = some { status := 0#2, tag := some i.tag, nops := i.operands.length, operands := i.operands }) ∨
      (∃ q ∈ ([(.truncated, 1#2), (.unknownOpcode, 2#2), (.invalidEncoding, 3#2)] : List (DecodeError × BitVec 2)),
        t.result = some (.error q.1) ∧ t.status = some q.2 ∧
        t.donePort = some { status := q.2, tag := none, nops := 0, operands := [] }))) ∧
    (∀ rest, s.host = .reset :: rest → t.status = none ∧ t.donePort = none ∧ t.sidePort = none)

/-! ## The caller -/

/-- Each call starts from fresh working state, whatever the last one left: every flag of PFX 0, REX absent, no register
holding a value, STATUS without one, the cursor and the tables as they are (60_exceptions.md R292; 10_state.md R34,
R35, R48). -/
def Obligations.EveryCallStartsFresh : Prop :=
  ∀ (s : State) (rest : List HostMove), s.stage = .idle → s.host = .start :: rest →
    ∃ t, step s = .next t ∧ (∀ f, t.pfx.get f = false) ∧ t.rex = none ∧ t.opc = none ∧ t.desc = none ∧
      t.modrm = none ∧ t.sib = none ∧ t.disp = none ∧ t.slots = none ∧ t.status = none ∧ t.stage = .scan ∧
      t.pos0 = some s.pos ∧ t.pos = s.pos ∧ t.buf = s.buf ∧ t.len = s.len ∧ t.cfg = s.cfg ∧ t.host = rest ∧
      t.drawn = s.drawn

/-- Reset: between calls it leaves the cursor, the buffer and the tables alone and clears the block's own registers
and STATUS; during a call the call is lost, with no result, and POS is an unconstrained draw within the buffer
(70_reset_and_hazards.md R320, R321; the spec's decision 92 D18, log 6). The draw is log 1. -/
def Obligations.ResetLosesTheCallAndKeepsTheBuffer : Prop :=
  ∀ (s : State) (rest : List HostMove), s.host = .reset :: rest →
    ∃ t, step s = .next t ∧ t.workEmpty = true ∧ t.stage = .idle ∧ t.out = none ∧ t.buf = s.buf ∧ t.len = s.len ∧
      t.cfg = s.cfg ∧ t.host = rest ∧
      (s.stage = .idle → t.pos = s.pos) ∧
      (s.stage ≠ .idle → t.pos = Config.posAfterError s.drawn % (s.len + 1) ∧ t.pos ≤ s.len)

/-- A call started while one is in progress on this cursor has no meaning: refused by name (20_memory.md R82; log 11). -/
def Obligations.OverlappingCallIsRefused : Prop :=
  ∀ (s : State) (rest : List HostMove), s.stage ≠ .idle → s.host = .start :: rest →
    step s = .refused .overlappingCalls

/-- The caller's moves between calls: `setPos` moves the cursor anywhere in 0..LEN and changes nothing else; a position
beyond LEN is a fault by name; `load` puts exactly the given bytes under the cursor, and faults by name when they are too
many for POS_BITS or the position lies beyond them; `await` and no move at all change nothing else (00_scope.md R19;
60_exceptions.md R289, R301; the list of moves is the model's own, log 6, and so are the faults, log 12). -/
def Obligations.CallerMovesTheCursorBetweenCalls : Prop :=
  ∀ (s : State) (rest : List HostMove), s.stage = .idle →
    (∀ p, s.host = .setPos p :: rest → p ≤ s.len → step s = .next { s with pos := p, host := rest }) ∧
    (∀ p, s.host = .setPos p :: rest → s.len < p → step s = .fault .positionOutsideBuffer) ∧
    (∀ bytes p, s.host = .load bytes p :: rest → bytes.length < 2 ^ s.cfg.posBits → p ≤ bytes.length →
      ∃ m : Memory, step s = .next { s with buf := m, len := bytes.length, pos := p, host := rest } ∧
        m.wf = true ∧ ∀ k (h : k < bytes.length), m.read k = bytes[k]) ∧
    (∀ bytes p, s.host = .load bytes p :: rest → bytes.length < 2 ^ s.cfg.posBits → bytes.length < p →
      step s = .fault .positionOutsideBuffer) ∧
    (∀ bytes p, s.host = .load bytes p :: rest → 2 ^ s.cfg.posBits ≤ bytes.length → step s = .fault .bufferTooLong) ∧
    (s.host = .await :: rest → step s = .next { s with host := rest }) ∧
    (s.host = [] → step s = .next s)

/-! ## Invariants and whole-machine rules -/

/-- The invariant holds at reset. The buffer, the cursor and the parameters of the reset state are the model's choice
(logs 2 to 5). -/
def Obligations.ResetMeetsTheInvariant : Prop :=
  State.reset.Inv = true ∧ State.reset.shapesOk = true ∧ State.reset.cfg.wf = true

/-- Every step keeps the invariant: the cursor stays in 0..LEN, the buffer stays in canonical form, and the working
registers hold what the stage of the call says, the descriptor well-formed and the slot array of its length among them
(20_memory.md R63; 10_state.md R20, R22, R23, R41). -/
def Obligations.EveryStepKeepsTheInvariant : Prop :=
  ∀ s t : State, s.Inv = true → step s = .next t → t.Inv = true

/-- Every memory expression in a slot or in a result has one of the six shapes, and every step keeps that
(10_state.md R42). -/
def Obligations.EveryStepKeepsTheSixShapes : Prop :=
  ∀ s t : State, s.shapesOk = true → step s = .next t → t.shapesOk = true

/-- No step changes a parameter: tables, names, PREFIX_LIST, escape bytes (00_scope.md R10; 20_memory.md R83; 93 U4). -/
def Obligations.NoStepChangesTheParameters : Prop :=
  ∀ s t : State, step s = .next t → t.cfg = s.cfg

/-- While a call goes on the cursor never moves back, and by at most 4 bytes a step; the step that returns OK leaves it
where it is (10_state.md R31, R32). -/
def Obligations.CursorIsForwardOnly : Prop :=
  ∀ s t : State, s.stage ≠ .idle → step s = .next t →
    (t.stage ≠ .idle → s.pos ≤ t.pos ∧ t.pos ≤ s.pos + 4 ∧ (s.pos ≤ s.len → t.pos ≤ t.len)) ∧
    (∀ i, t.stage = .idle → t.result = some (.ok i) → t.pos = s.pos)

/-- A call ends in exactly one of these ways: a return or an error, shown on `out`; or a reset by the caller, with
nothing shown (46_orchestrator.md R270; 60_exceptions.md R284, R290). Nothing else leaves a call. That a reset can
come during a call is the caller's move of log 6; POS after an error is the model's free draw (log 1). -/
def Obligations.OnlyResultOrResetEndsACall : Prop :=
  ∀ s t : State, s.stage ≠ .idle → step s = .next t → t.stage = .idle →
    (∃ o, t.out = some o ∧ t.host = s.host ∧ (∀ e, o.result = .error e → ∃ side, t = errorState s side e)) ∨
    (s.host = .reset :: t.host ∧ t.out = none)

/-- With well-formed parameters nothing the stream holds is refused: every step from a state of the invariant in which
the caller starts no overlapping call answers a next state, or the fault of a caller's move outside the cursor's
bounds (93 U10; 70_reset_and_hazards.md R322; log 13). The premise leaves out the refusal of log 11, and the faults
are those of log 12: both are the model's. -/
def Obligations.WellFormedParametersAreNeverRefused : Prop :=
  ∀ s : State, s.Inv = true → s.cfg.wf = true → (∀ rest, s.host = .start :: rest → s.stage = .idle) →
    (∃ t, step s = .next t) ∨ (s.stage = .idle ∧ ∃ f, step s = .fault f)

/-- The prefixes change nothing but themselves on the side output: two states that differ only in PFX step to states that
differ only in PFX and in what the side output shows of PFX; whether it is shown, and what it shows of REX, are the same (10_state.md R36; 43_addressing_mode.md R202). -/
def Obligations.PrefixesNeverChangeTheResult : Prop :=
  ∀ (s : State) (q : PrefixSet), s.stage ≠ .idle →
    mapNext State.withoutPfx (step { s with pfx := q }) = mapNext State.withoutPfx (step s)

/-- A REX byte 40 is as no REX byte, the byte consumed apart: a state of a call with REX present and all four bits 0 steps
to what the same state with REX absent steps to, but for REX itself and what the side output shows of REX (41_rex_decoder.md R160; 10_state.md R35). -/
def Obligations.RexAllZeroActsAsAbsent : Prop :=
  ∀ s : State, s.stage ≠ .idle → s.rex = none →
    mapNext State.withoutRex (step { s with rex := some { w := false, r := false, x := false, b := false } }) =
      mapNext State.withoutRex (step s)

/-! ## Whole calls -/

/-- The prefix scan: `n` prefix bytes followed by a byte that is no prefix are consumed by `n` steps, exactly the flags they
name are set, one per matched byte, and the terminating byte is left un-consumed (40_prefix_scanner.md R155). -/
def Obligations.PrefixScanConsumesExactlyThePrefixes : Prop :=
  ∀ (n : Nat) (s : State), s.stage = .scan → s.quiet = true → s.pos + n < s.len →
    (∀ k, k < n → (s.cfg.prefixOf (s.buf.read (s.pos + k))).isSome = true) →
    s.cfg.prefixOf (s.buf.read (s.pos + n)) = none →
      ∃ q : PrefixSet, runSteps n s = .next { s with pfx := q, pos := s.pos + n } ∧
        (∀ f, q.get f = true ↔
          s.pfx.get f = true ∨ ∃ k, k < n ∧ s.cfg.prefixOf (s.buf.read (s.pos + k)) = some f) ∧
        ∀ i, decode s.cfg { s.ctx with stage := .scan } (s.bytesFrom 3 (s.pos + n)) = .ok i → ∀ f, i.row ≠ .pfx f

/-- The steps of a call, row by row, amount to DECODE_ONE as the pseudocode has it: started between calls with no other
move of the caller, the block reaches the state of `decodeOne`, or its refusal, within `LEN - POS + 7` steps, and stays
there (46_orchestrator.md R260; 70_reset_and_hazards.md R340; log 7). -/
def Obligations.StepsOfACallAmountToDecodeOne : Prop :=
  ∀ (s : State) (n : Nat), s.stage = .idle → s.host = [] → s.len - s.pos + 7 ≤ n →
    runSteps n { s with host := [.start] } = decodeOne s

/-- A call never hangs: within `LEN - POS + 7` steps it has ended with a result or an error shown, or was refused for
an ill-formed descriptor (46_orchestrator.md R270; 70_reset_and_hazards.md R341). The refusal is log 13 (92 D13), and
the count of steps is that of the model's own steps (logs 7 and 15). -/
def Obligations.EveryCallEnds : Prop :=
  ∀ (s : State), s.stage = .idle → s.host = [] →
    (∃ t o, runSteps (s.len - s.pos + 7) { s with host := [.start] } = .next t ∧ t.stage = .idle ∧ t.out = some o) ∨
    runSteps (s.len - s.pos + 7) { s with host := [.start] } = .refused .illFormedDescriptor

/-- After a successful call POS is POS0 plus the bytes of its parts, in stream order, and each part is the one the bytes
call for: the prefixes at POS0 up to the first byte that is none; REX exactly when that byte has the nibble; one opcode
byte, or two or three by ESC and the selectors; a ModRM byte exactly when the descriptor of those bytes has ModRM; a SIB
byte exactly when `mod` is not 3 and raw `rm` is 4; a displacement as the table of R109 has it (46_orchestrator.md R264;
10_state.md R31; 30_encoding.md R106, R109; the base-5 test by 92 D7, table pairing by 92 D6). -/
def Obligations.SuccessfulCallConsumesItsParts : Prop :=
  ∀ (s t : State) (i : Instruction), decodeOne s = .next t → t.result = some (.ok i) →
    ∃ (npfx nrex nopc nmodrm nsib ndisp : Nat) (d : OpcodeDescriptor),
      t.pos = s.pos + npfx + nrex + nopc + nmodrm + nsib + ndisp ∧ t.pos ≤ s.len ∧
      s.prefixBytesAre npfx ∧
      let rex := s.rexAt (s.pos + npfx)
      let opc := s.opcodeAt (s.pos + npfx + nrex)
      let modrm := ModRM.ofByte (s.buf.read (s.pos + npfx + nrex + nopc))
      let sib := Sib.ofByte (s.buf.read (s.pos + npfx + nrex + nopc + 1))
      cellOf s.cfg opc = some d ∧
      nrex = (if rex.isSome then 1 else 0) ∧
      nopc = opc.count ∧
      nmodrm = (if d.modrm then 1 else 0) ∧
      nsib = (if d.modrm && modrm.hasSib then 1 else 0) ∧
      ndisp = (if d.modrm then dispLength modrm (base5Test s.cfg sib.bs (rexBit rex RexFlags.b)) else 0)

/-- Determinism: the outcome of a call, its side outputs and the bytes it consumes depend only on the parameters and
the bytes from the cursor on; not on the position, the bytes before it, or anything an earlier call left
(46_orchestrator.md R268; 42_opcode_resolver.md R176). That the side outputs exist and when they are shown is log 14
(92 D16). -/
def Obligations.OutcomeDependsOnlyOnTheBytesAhead : Prop :=
  ∀ s t : State, s.sameView t →
    match decodeOne s, decodeOne t with
    | .next a, .next b =>
      a.result = b.result ∧ a.sidePort = b.sidePort ∧
        (∀ i, a.result = some (.ok i) → ∃ n, a.pos = s.pos + n ∧ b.pos = t.pos + n)
    | .refused a, .refused b => a = b
    | _, _ => False

/-- What a successful call returns fits the descriptor in the table cell that the opcode bytes at the cursor select, after
the prefixes and REX: its tag; as many operands as it has; in the slot of `r` the register of the ModRM `reg` field; in
the slot of `m` a memory expression; in the slot of `rm` the register of the `rm` field when `mod` is 3, else a memory
expression; in every FIXED slot one of its literals (10_state.md R44, R45; 30_encoding.md R106; class and width by 92 D9
and D10, table pairing by 92 D6). -/
def Obligations.ResultFitsItsDescriptor : Prop :=
  ∀ (s t : State) (i : Instruction), decodeOne s = .next t → t.result = some (.ok i) →
    ∃ (npfx : Nat) (d : OpcodeDescriptor), s.prefixBytesAre npfx ∧
      let u := { s with rex := s.rexAt (s.pos + npfx) }
      let a := s.pos + npfx + (if u.rex.isSome then 1 else 0)
      let modrm := ModRM.ofByte (s.buf.read (a + (s.opcodeAt a).count))
      cellOf s.cfg (s.opcodeAt a) = some d ∧ d.wf s.cfg.nslot = true ∧
      i.tag = d.tag ∧ i.operands.length = d.operands.length ∧
      (∀ o, d.deref d.r = some o → i.operands[o.index]? = some (.reg (u.registerOf o.kind modrm.reg u.rexR))) ∧
      (∀ o, d.deref d.m = some o → ∃ e, i.operands[o.index]? = some (.mem e)) ∧
      (∀ o, d.deref d.rm = some o →
        (modrm.mod = 3#2 → i.operands[o.index]? = some (.reg (u.registerOf o.kind modrm.rm u.rexB))) ∧
        (modrm.mod ≠ 3#2 → ∃ e, i.operands[o.index]? = some (.mem e))) ∧
      (∀ o, o ∈ d.operands → o.kind = .fixed →
        ∃ x, i.operands[o.index]? = some (.lit x) ∧ (o.alt0 = some x ∨ o.alt1 = some x))

/-- Every general-register designator of a call has one width, 64 bits when REX.w is 1 and 32 otherwise, whether it is the
reg operand, the rm register, a base or an index; MMX and XMM designators have none (10_state.md R28; 92 D10). -/
def Obligations.OneWidthForEveryGeneralRegister : Prop :=
  ∀ (s t : State) (i : Instruction) (p : SidePort), decodeOne s = .next t → t.result = some (.ok i) →
    t.sidePort = some p → ∀ v, v ∈ i.operands → ∀ d, d ∈ v.designators →
      d.width = if d.cls = .gpr then some (if p.w then .w64 else .w32) else none

/-- The source's first end-to-end example: `C3`, where the table holds an entry with no operands and no ModRM, yields the
entry's tag with no operands and consumes exactly one byte (46_orchestrator.md R260, 30_encoding.md R112). -/
def Obligations.ExampleC3 : Prop :=
  ∀ (s : State) (d : OpcodeDescriptor), s.cfg.cellC3Ok = true → s.cfg.t1.get 0xC3#8 = some d →
    s.cfg.prefixOf 0xC3#8 = none → s.cfg.esc ≠ 0xC3#8 → s.pos < s.len → s.buf.read s.pos = 0xC3#8 →
      ∃ t, decodeOne s = .next t ∧ t.result = some (.ok { tag := d.tag, operands := [] }) ∧ t.pos = s.pos + 1

/-- The source's second end-to-end example: `48 89 D8`, where the table holds a two-operand ModRM entry of general
registers, yields register 3 in the slot of `r` and register 0 in the slot of `rm`, both 64 bits wide, and consumes
exactly three bytes (46_orchestrator.md R269). The last clause is about the side port, log 14 (92 D16). -/
def Obligations.Example4889D8 : Prop :=
  ∀ (s : State) (d : OpcodeDescriptor) (r rm : OperandDescriptor),
    s.cfg.cell89Ok = true → s.cfg.t1.get 0x89#8 = some d → d.wf s.cfg.nslot = true →
    d.deref d.r = some r → d.deref d.rm = some rm →
    s.cfg.prefixOf 0x48#8 = none → s.cfg.esc ≠ 0x89#8 → s.pos + 3 ≤ s.len →
    s.buf.read s.pos = 0x48#8 → s.buf.read (s.pos + 1) = 0x89#8 → s.buf.read (s.pos + 2) = 0xD8#8 →
      ∃ t ops, decodeOne s = .next t ∧ t.result = some (.ok { tag := d.tag, operands := ops }) ∧ t.pos = s.pos + 3 ∧
        ops.length = 2 ∧
        ops[r.index]? = some (.reg { cls := .gpr, width := some .w64, idx := 3#4 }) ∧
        ops[rm.index]? = some (.reg { cls := .gpr, width := some .w64, idx := 0#4 }) ∧
        t.sidePort = some { pfx := PrefixSet.empty, present := true, w := true, r := false, x := false, b := false }
end

