-- ==== Sys2Proof/Laws/Buffer.lean ====
section
/-! SUPPORT. The buffer: read after write, and that every memory operation keeps the canonical form. -/

namespace Sys2Proof.Machine

/-! ## One cell list -/

theorem cellsWf_mono {cells : List Host.Cell} {lo hi : Nat} (h : lo ≤ hi) (hw : cellsWf hi cells = true) :
    cellsWf lo cells = true := by
  cases cells with
  | nil => rfl
  | cons c rest =>
    simp only [cellsWf, Bool.and_eq_true, decide_eq_true_eq] at hw ⊢
    exact ⟨⟨h.trans hw.1.1, hw.1.2⟩, hw.2⟩

theorem putCell_wf {cells : List Host.Cell} {lo a : Nat} {v : Byte} (hlo : lo ≤ a) (hw : cellsWf lo cells = true) :
    cellsWf lo (putCell cells a v) = true := by
  induction cells generalizing lo with
  | nil =>
    by_cases hv : v = unlistedByte
    · simp [putCell, hv, cellsWf]
    · simp [putCell, hv, cellsWf, hlo]
  | cons c rest ih =>
    simp only [cellsWf, Bool.and_eq_true, decide_eq_true_eq] at hw
    simp only [putCell]
    by_cases h1 : a < c.1
    · by_cases hv : v = unlistedByte
      · simp [h1, hv, cellsWf, hw]
      · simp [h1, hv, cellsWf, hw, hlo]
    · by_cases h2 : a = c.1
      · by_cases hv : v = unlistedByte
        · simp only [h2, hv, if_true, if_false, lt_irrefl]
          exact cellsWf_mono (by omega) hw.2
        · subst h2
          simp [hv, cellsWf, hw]
      · simp only [h1, h2, if_false, cellsWf, Bool.and_eq_true, decide_eq_true_eq]
        exact ⟨hw.1, ih (by omega) hw.2⟩

/-- Below the first address nothing is listed. -/
theorem readCells_below {cells : List Host.Cell} {lo a : Nat} (hw : cellsWf lo cells = true) (ha : a < lo) :
    readCells cells a = unlistedByte := by
  induction cells generalizing lo with
  | nil => rfl
  | cons c rest ih =>
    simp only [cellsWf, Bool.and_eq_true, decide_eq_true_eq] at hw
    have hne : c.1 ≠ a := by omega
    simp only [readCells, hne, if_false]
    exact ih hw.2 (by omega)

theorem readCells_putCell {cells : List Host.Cell} {lo a b : Nat} {v : Byte} (hw : cellsWf lo cells = true) :
    readCells (putCell cells a v) b = if b = a then v else readCells cells b := by
  induction cells generalizing lo with
  | nil =>
    by_cases hv : v = unlistedByte <;> simp [putCell, readCells, hv, eq_comm]
  | cons c rest ih =>
    simp only [cellsWf, Bool.and_eq_true, decide_eq_true_eq] at hw
    have below : ∀ x, x ≤ c.1 → readCells rest x = unlistedByte := fun x hx => readCells_below hw.2 (by omega)
    simp only [putCell]
    by_cases h1 : a < c.1
    · by_cases hb : b = a
      · subst hb
        have hne : c.1 ≠ b := by omega
        by_cases hv : v = unlistedByte <;> simp [h1, hv, readCells, hne, below b h1.le]
      · by_cases hv : v = unlistedByte <;> simp [h1, hv, readCells, hb, Ne.symm hb]
    · by_cases h2 : a = c.1
      · subst h2
        by_cases hb : b = c.1
        · subst hb
          by_cases hv : v = unlistedByte <;> simp [hv, readCells, below]
        · by_cases hv : v = unlistedByte <;> simp [hv, readCells, hb, Ne.symm hb]
      · simp only [h1, h2, if_false, readCells, ih hw.2]
        by_cases hc : c.1 = b
        · have hb : b ≠ a := by omega
          simp [hc, hb]
        · simp [hc]

theorem mem_putCell {cells : List Host.Cell} {a : Nat} {v : Byte} {c : Host.Cell} (h : c ∈ putCell cells a v) :
    c = (a, v) ∨ c ∈ cells := by
  induction cells with
  | nil => simp only [putCell] at h; split at h <;> simp_all
  | cons e rest ih =>
    simp only [putCell] at h
    split at h
    · split at h <;> grind
    · split at h
      · split at h <;> grind
      · grind

/-! ## The buffer -/

/-- The buffer at reset is in canonical form. -/
theorem reset_buf_wf : State.reset.buf.wf = true := rfl

theorem Memory.write_wf {m : Memory} (h : m.wf = true) (a : Nat) (v : Byte) : (m.write a v).wf = true :=
  putCell_wf (Nat.zero_le a) h

theorem Memory.read_write {m : Memory} (h : m.wf = true) (a b : Nat) (v : Byte) :
    (m.write a v).read b = if b = a then v else m.read b :=
  readCells_putCell h

theorem Memory.writeBytes_wf {m : Memory} (h : m.wf = true) (a : Nat) (bytes : List Byte) :
    (m.writeBytes a bytes).wf = true := by
  induction bytes generalizing m a with
  | nil => exact h
  | cons v rest ih => exact ih (Memory.write_wf h a v) (a + 1)

/-- Outside the written bytes every address reads as before. -/
theorem Memory.read_writeBytes_outside {m : Memory} (h : m.wf = true) {a b : Nat} {bytes : List Byte}
    (hb : b < a ∨ a + bytes.length ≤ b) : (m.writeBytes a bytes).read b = m.read b := by
  induction bytes generalizing m a with
  | nil => rfl
  | cons v rest ih =>
    simp only [List.length_cons] at hb
    have hne : b ≠ a := by omega
    rw [Memory.writeBytes, ih (Memory.write_wf h a v) (by omega), Memory.read_write h, if_neg hne]

/-- The written bytes read back. -/
theorem Memory.read_writeBytes {m : Memory} (h : m.wf = true) {a k : Nat} {bytes : List Byte}
    (hk : k < bytes.length) : (m.writeBytes a bytes).read (a + k) = bytes[k] := by
  induction bytes generalizing m a k with
  | nil => exact absurd hk (Nat.not_lt_zero k)
  | cons v rest ih =>
    cases k with
    | zero =>
      rw [Memory.writeBytes, Memory.read_writeBytes_outside (Memory.write_wf h a v) (by omega), Memory.read_write h]
      simp
    | succ k =>
      simp only [List.length_cons] at hk
      have := ih (Memory.write_wf h a v) (a := a + 1) (k := k) (by omega)
      rw [Memory.writeBytes, show a + (k + 1) = a + 1 + k by omega, this]
      rfl

theorem Memory.within_iff {m : Memory} {len : Nat} : m.within len = true ↔ ∀ c ∈ m.cells, c.1 < len := by
  simp [Memory.within]

theorem Memory.writeBytes_within {m : Memory} {a len : Nat} {bytes : List Byte} (h : m.within len = true)
    (ha : a + bytes.length ≤ len) : (m.writeBytes a bytes).within len = true := by
  induction bytes generalizing m a with
  | nil => exact h
  | cons v rest ih =>
    simp only [List.length_cons] at ha
    refine ih ?_ (by omega)
    rw [Memory.within_iff] at h ⊢
    intro c hc
    rcases mem_putCell hc with rfl | hc
    · simp; omega
    · exact h c hc

theorem Memory.ofBytes_wf (bytes : List Byte) : (Memory.ofBytes bytes).wf = true :=
  Memory.writeBytes_wf rfl 0 bytes

theorem Memory.ofBytes_within (bytes : List Byte) : (Memory.ofBytes bytes).within bytes.length = true :=
  Memory.writeBytes_within rfl (by omega)

/-- A loaded buffer holds exactly the given bytes. -/
theorem Memory.read_ofBytes {bytes : List Byte} {k : Nat} (hk : k < bytes.length) :
    (Memory.ofBytes bytes).read k = bytes[k] := by
  have := Memory.read_writeBytes (m := ⟨[]⟩) rfl (a := 0) hk
  simpa [Memory.ofBytes] using this

/-- Placing bytes at the cursor keeps the canonical form. -/
theorem State.place_wf {s : State} (h : s.buf.wf = true) (bytes : List Byte) : (s.place bytes).buf.wf = true :=
  Memory.writeBytes_wf h s.pos bytes

end Sys2Proof.Machine
end

