-- ==== Sys2Proof/Laws/Decode.lean ====
section
/-! SUPPORT. The byte layouts split and join; the row tables and the rows agree; what the prefix lookup answers. -/

namespace Sys2Proof

/-! ## Bytes and fields -/

@[simp] theorem bits76_byteOfFields (a : BitVec 2) (b c : BitVec 3) : bits76 (byteOfFields a b c) = a := by
  revert a b c; decide

@[simp] theorem bits53_byteOfFields (a : BitVec 2) (b c : BitVec 3) : bits53 (byteOfFields a b c) = b := by
  revert a b c; decide

@[simp] theorem bits20_byteOfFields (a : BitVec 2) (b c : BitVec 3) : bits20 (byteOfFields a b c) = c := by
  revert a b c; decide

@[simp] theorem byteOfFields_bits (v : Byte) : byteOfFields (bits76 v) (bits53 v) (bits20 v) = v := by
  revert v; decide

@[simp] theorem ModRM.ofByte_byteOfFields (a : BitVec 2) (b c : BitVec 3) :
    ModRM.ofByte (byteOfFields a b c) = ⟨a, b, c⟩ := by simp [ModRM.ofByte]

@[simp] theorem Sib.ofByte_byteOfFields (a : BitVec 2) (b c : BitVec 3) :
    Sib.ofByte (byteOfFields a b c) = ⟨a, b, c⟩ := by simp [Sib.ofByte]

@[simp] theorem ModRM.toByte_ofByte (v : Byte) : (ModRM.ofByte v).toByte = v := by
  simp [ModRM.ofByte, ModRM.toByte]

@[simp] theorem ModRM.ofByte_toByte (v : ModRM) : ModRM.ofByte v.toByte = v := by
  simp [ModRM.toByte]

@[simp] theorem Sib.toByte_ofByte (v : Byte) : (Sib.ofByte v).toByte = v := by
  simp [Sib.ofByte, Sib.toByte]

@[simp] theorem Sib.ofByte_toByte (v : Sib) : Sib.ofByte v.toByte = v := by
  simp [Sib.toByte]

@[simp] theorem MemMod.ofField_field (k : MemMod) : MemMod.ofField k.field = some k := by
  cases k <;> rfl

theorem MemMod.ofField_eq_some {m : BitVec 2} {k : MemMod} : MemMod.ofField m = some k ↔ m = k.field := by
  revert m; cases k <;> decide

theorem MemMod.ofField_eq_none {m : BitVec 2} : MemMod.ofField m = none ↔ m = 3#2 := by
  revert m; decide

@[simp] theorem MemMod.ofField_three : MemMod.ofField 3#2 = none := rfl

@[simp] theorem MemMod.field_ne_three (k : MemMod) : k.field ≠ 3#2 := by
  cases k <;> decide

/-! ## REX bytes -/

@[simp] theorem isRexByte_rexByteOf (w r x b : Bool) : isRexByte (rexByteOf w r x b) = true := by
  revert w r x b; decide

@[simp] theorem rexInstr_rexByteOf (w r x b : Bool) : rexInstr (rexByteOf w r x b) = .rex w r x b := by
  revert w r x b; decide

theorem rexByteOf_bits {v : Byte} (h : isRexByte v = true) :
    rexByteOf (v.getLsbD 3) (v.getLsbD 2) (v.getLsbD 1) (v.getLsbD 0) = v := by
  revert v; decide

/-- The marker nibble as a number. -/
theorem isRexByte_iff (v : Byte) : isRexByte v = true ↔ v.toNat / 16 = 4 := by
  revert v; decide

/-! ## Row tables -/

@[simp] theorem pfxInstr_row (f : PfxFlag) : (pfxInstr f).row = .pfx f := by cases f <;> rfl

@[simp] theorem followsInstr_row (k : MemMod) : (followsInstr k).row = .follows k := by cases k <;> rfl

theorem memInstr_row (k : MemMod) (x : Bool) (rm : BitVec 3) (h : rm ≠ 4#3) :
    (memInstr k x rm).row = .mem k rm x := by
  revert rm; cases k <;> cases x <;> decide

theorem sibInstr_row (k : MemMod) (idx bs : BitVec 3) (base5 : Bool) (ss : BitVec 2) (h : base5 = true → bs = 5#3) :
    (sibInstr k idx bs base5 ss).row = .sib k idx bs base5 ss := by
  revert h idx bs base5 ss
  cases k <;> decide

theorem oneByteInstr_row (o1 : Byte) :
    (oneByteInstr o1).row = if o1 = 0xC3#8 ∨ o1 = 0x89#8 then .cell o1 else .oneByte o1 := by
  unfold oneByteInstr
  by_cases h1 : o1 = 0xC3#8
  · simp [h1, Instr.row]
  · by_cases h2 : o1 = 0x89#8
    · simp [h2, Instr.row]
    · simp [h1, h2, Instr.row]

/-- The instruction a row is of, read back from the row tables. -/
def ofRow : Row → Instr
  | .pfx f => pfxInstr f
  | .rexByte w r x b => .rex w r x b
  | .oneByte o1 => .opcOneByte o1
  | .twoByte o2 => .escTwoByte o2
  | .threeByteA o3 => .escThreeByteA o3
  | .threeByteB o3 => .escThreeByteB o3
  | .cell o1 => if o1 = 0xC3#8 then .t1C3 else .t189
  | .reg mod reg rm => .modrmReg mod reg rm
  | .direct memOnly rm => if memOnly then .modrmRegdirectInvalid rm else .modrmRegdirect rm
  | .follows k => followsInstr k
  | .mem k rm rexX => memInstr k rexX rm
  | .sib k idx bs base5 ss => sibInstr k idx bs base5 ss

@[simp] theorem ofRow_row (i : Instr) : ofRow i.row = i := by
  cases i <;> rfl

/-- A row belongs to one constructor and its fields. -/
theorem Instr.row_injective {i j : Instr} (h : i.row = j.row) : i = j := by
  rw [← ofRow_row i, h, ofRow_row]

/-- The two cells the OPCODE1 rows name. -/
theorem Instr.row_cell {i : Instr} {o1 : Byte} (h : i.row = .cell o1) : o1 = 0xC3#8 ∨ o1 = 0x89#8 := by
  cases i <;> cases h
  · exact .inl rfl
  · exact .inr rfl

/-- A memory row has no raw `rm` 4: that ModRM byte has a SIB byte. -/
theorem Instr.row_mem {i : Instr} {k : MemMod} {rm : BitVec 3} {x : Bool} (h : i.row = .mem k rm x) : rm ≠ 4#3 := by
  cases i <;> cases h <;> decide

/-- The base-5 rows have raw base 5. -/
theorem Instr.row_sib {i : Instr} {k : MemMod} {idx bs : BitVec 3} {ss : BitVec 2} (h : i.row = .sib k idx bs true ss) :
    bs = 5#3 := by
  cases i <;> cases h <;> rfl

/-! ## The rows after ModRM -/

theorem decodeRm_follows {c : Ctx} {v : ModRM} {k : MemMod} (hk : v.mod = k.field) (h : v.rm = 4#3) :
    decodeRm c v = followsInstr k := by
  simp [decodeRm, hk, h]

theorem decodeRm_mem {c : Ctx} {v : ModRM} {k : MemMod} (hk : v.mod = k.field) (h : v.rm ≠ 4#3) :
    decodeRm c v = memInstr k c.rexX v.rm := by
  simp [decodeRm, hk, h]

theorem decodeRm_direct {c : Ctx} {v : ModRM} (h : v.mod = 3#2) :
    decodeRm c v = if c.memOnly then .modrmRegdirectInvalid v.rm else .modrmRegdirect v.rm := by
  simp [decodeRm, h]

theorem decodeSib_ok {p : Params} {c : Ctx} {v : ModRM} {k : MemMod} (hk : v.mod = k.field) (h : v.rm = 4#3) (x : Sib) :
    decodeSib p c v x = .ok (sibInstr k x.idx x.bs (base5Test p x.bs c.rexB) x.ss) := by
  simp [decodeSib, hk, h]

theorem base5Test_bs {p : Params} {bs : BitVec 3} {b : Bool} (h : base5Test p bs b = true) : bs = 5#3 := by
  unfold base5Test at h
  split at h <;> simp_all

/-- A `mod` field is 3 or names a memory form. -/
theorem mod_cases (m : BitVec 2) : m = 3#2 ∨ ∃ k : MemMod, m = k.field := by
  cases h : MemMod.ofField m with
  | none => exact .inl (MemMod.ofField_eq_none.mp h)
  | some k => exact .inr ⟨k, MemMod.ofField_eq_some.mp h⟩

/-! ## The prefix list -/

theorem firstFlag_mem {l : List (Byte × PfxFlag)} {v : Byte} {f : PfxFlag} (h : firstFlag l v = some f) :
    v ∈ l.map Prod.fst := by
  induction l with
  | nil => cases h
  | cons e rest ih =>
    simp only [firstFlag] at h
    split at h
    · simp [*]
    · simp [ih h]

/-- The byte found for a flag sets that flag. -/
theorem Params.prefixOf_byteOfFlag {p : Params} {f : PfxFlag} {v : Byte} (h : p.byteOfFlag f = some v) :
    p.prefixOf v = some f := by
  simpa using List.find?_some h

/-- A byte that sets a flag makes its row well-formed. -/
theorem Params.byteOfFlag_isSome {p : Params} {f : PfxFlag} {v : Byte} (h : p.prefixOf v = some f) :
    (p.byteOfFlag f).isSome = true := by
  rw [Params.byteOfFlag, List.find?_isSome]
  exact ⟨v, firstFlag_mem h, by simpa using h⟩

/-- Where no two bytes set one flag, the byte found for the flag of `v` is `v`. -/
theorem Params.byteOfFlag_eq {p : Params} {f : PfxFlag} {v : Byte}
    (hp : ∀ (v w : Byte) (f : PfxFlag), p.prefixOf v = some f → p.prefixOf w = some f → v = w)
    (h : p.prefixOf v = some f) : p.byteOfFlag f = some v := by
  obtain ⟨w, hw⟩ := Option.isSome_iff_exists.mp (Params.byteOfFlag_isSome h)
  rw [hw, hp w v f (Params.prefixOf_byteOfFlag hw) h]

end Sys2Proof
end

