-- ==== Sys2Proof/Laws/Ops.lean ====
section
/-! SUPPORT. What each shared operation does, said once: the operations in the terms of Safety.lean, an equation for each
operation with the condition it holds under, and what an operation that goes on has left unchanged. -/

namespace Sys2Proof.Machine

/-! ## Flags -/

@[simp] theorem PrefixSet.get_set (p : PrefixSet) (f g : PfxFlag) :
    (p.set f).get g = (decide (g = f) || p.get g) := by
  cases f <;> cases g <;> rfl

@[simp] theorem PrefixSet.get_empty (f : PfxFlag) : PrefixSet.empty.get f = false := by cases f <;> rfl

/-! ## Registers, scales, numbers -/

/-- Field extension as a sum (30_encoding.md R110). -/
theorem ext4_eq (raw : BitVec 3) (bit : Bool) : ext4 raw bit = BitVec.ofNat 4 (raw.toNat + if bit then 8 else 0) := by
  revert raw bit; decide

theorem regdes_ext4 (s : State) (kind : OperandKind) (raw : BitVec 3) (bit : Bool) :
    s.regdes kind (ext4 raw bit) = s.registerOf kind raw bit := by
  simp only [State.regdes, State.registerOf, ext4_eq]
  cases kind <;> cases s.rexW <;> rfl

theorem scaleOf_field (ss : BitVec 2) : scalesByField[ss.toNat]? = some (scaleOf ss) := by
  revert ss; decide

theorem indexTerm_eq (s : State) (kind : OperandKind) (idx : BitVec 3) (ss : BitVec 2) :
    s.indexTerm kind idx ss = s.indexOf kind idx ss := by
  have h : idx = 4#3 ↔ idx.toNat = 4 := by revert idx; decide
  simp only [State.indexTerm, State.indexOf, h, regdes_ext4, scaleOf_field, Option.map_some]

theorem Scale.eq_s1_iff (c : Scale) : c = .s1 ↔ c.toNat = 1 := by cases c <;> decide

/-- The list view of an index term, the scale as a number. -/
theorem indexParts_eq (t : Option IndexTerm) :
    indexParts t = match t with
      | none => []
      | some t => if t.scale.toNat = 1 then [.r t.reg] else [.sr t.scale t.reg] := by
  cases t <;> simp only [indexParts, Scale.eq_s1_iff]

theorem toInt_eq_signed8 (v : Byte) : v.toInt = signed8 v := by
  simp only [signed8, BitVec.toInt_eq_toNat_cond]
  split <;> split <;> omega

theorem le32_toNat (b0 b1 b2 b3 : Byte) :
    (le32 b0 b1 b2 b3).toNat = b0.toNat + 256 * b1.toNat + 65536 * b2.toNat + 16777216 * b3.toNat := by
  have h : ∀ {n : Nat} (x : BitVec n) (y : Byte), (x ++ y).toNat = x.toNat * 256 + y.toNat := by
    intro n x y
    rw [BitVec.toNat_append, Nat.shiftLeft_eq, Nat.mul_comm, ← Nat.two_pow_add_eq_or_of_lt y.isLt x.toNat]
  simp only [le32, h]
  ring

/-- Four bytes as a little-endian two's-complement number (20_memory.md R68). -/
theorem le32_toInt (b0 b1 b2 b3 : Byte) : (le32 b0 b1 b2 b3).toInt = signed32 b0 b1 b2 b3 := by
  simp only [signed32, BitVec.toInt_eq_toNat_cond, ← le32_toNat]
  split <;> split <;> omega

/-! ## The cursor -/

theorem State.skip_of_le {s : State} {n : Nat} (h : s.pos + n ≤ s.len) : s.skip n = some { s with pos := s.pos + n } :=
  if_pos h

theorem State.skip_of_lt {s : State} {n : Nat} (h : s.len < s.pos + n) : s.skip n = none := if_neg (by omega)

/-- The displacement is read exactly when its bytes are there. -/
theorem State.readDisp_of_le {s : State} {k : MemMod} (h : s.pos + k.dispBytes ≤ s.len) :
    s.readDisp k = some (s.dispAt k, { s with
      pos := s.pos + k.dispBytes, disp := s.dispAfter k }) := by
  cases k
  · rfl
  · simp only [MemMod.dispBytes] at h
    simp [State.readDisp, State.readI8, h, State.dispAfter, State.dispAt, toInt_eq_signed8, MemMod.dispBytes]
  · simp only [MemMod.dispBytes] at h
    simp [State.readDisp, State.readI32, h, State.dispAfter, State.dispAt, le32_toInt, MemMod.dispBytes]

theorem State.readDisp_of_lt {s : State} {k : MemMod} (h : s.len < s.pos + k.dispBytes) (hp : s.pos ≤ s.len) :
    s.readDisp k = none := by
  cases k <;> simp only [MemMod.dispBytes] at h
  · omega
  · simp [State.readDisp, State.readI8]; omega
  · simp [State.readDisp, State.readI32]; omega

/-- The list of bytes at an address. -/
theorem State.getElem?_bytesFrom (s : State) (n a k : Nat) :
    (s.bytesFrom n a)[k]? = if k < n ∧ a + k < s.len then some (s.buf.read (a + k)) else none := by
  induction n generalizing a k with
  | zero => simp [State.bytesFrom]
  | succ n ih =>
    simp only [State.bytesFrom]
    split
    · cases k with
      | zero => simp; omega
      | succ k =>
        rw [List.getElem?_cons_succ, ih, show a + 1 + k = a + (k + 1) by omega]
        simp
    · rw [if_neg (by omega)]; rfl

/-! ## Errors -/

/-- `raise E` in the terms of the statements. -/
theorem raiseError_eq (s : State) (e : DecodeError) : s.raiseError e = errorState s s.sideNow e := rfl

theorem endScan_raiseError (s : State) (e : DecodeError) :
    s.endScan.raiseError e = errorState s (some { pfx := s.pfx, rex := s.rex }) e := rfl

theorem sideNow_eq (s : State) : s.sideNow = if s.stage = .scan then none else some { pfx := s.pfx, rex := s.rex } :=
  rfl

@[simp] theorem Output.mapSide_result (f : Side → Side) (o : Output) : (o.mapSide f).result = o.result := rfl
@[simp] theorem Output.mapSide_side (f : Side → Side) (o : Output) : (o.mapSide f).side = o.side.map f := rfl

/-- PFX and REX reach the end of a call only through the side output. -/
theorem raiseError_withoutPfx (s : State) (q : PrefixSet) (e : DecodeError) :
    (State.raiseError { s with pfx := q } e).withoutPfx = (s.raiseError e).withoutPfx := by
  by_cases h : s.stage = .scan <;> simp [raiseError_eq, sideNow_eq, State.withoutPfx, errorState, Output.mapSide, h]

theorem returnOk_withoutPfx (s : State) (q : PrefixSet) (i : Instruction) :
    (State.returnOk { s with pfx := q } i).withoutPfx = (s.returnOk i).withoutPfx := by
  by_cases h : s.stage = .scan <;>
    simp [State.returnOk, State.discardWork, sideNow_eq, State.withoutPfx, Output.mapSide, h]

theorem raiseError_withoutRex (s : State) (r : Option RexFlags) (e : DecodeError) :
    (State.raiseError { s with rex := r } e).withoutRex = (s.raiseError e).withoutRex := by
  by_cases h : s.stage = .scan <;> simp [raiseError_eq, sideNow_eq, State.withoutRex, errorState, Output.mapSide, h]

theorem returnOk_withoutRex (s : State) (r : Option RexFlags) (i : Instruction) :
    (State.returnOk { s with rex := r } i).withoutRex = (s.returnOk i).withoutRex := by
  by_cases h : s.stage = .scan <;>
    simp [State.returnOk, State.discardWork, sideNow_eq, State.withoutRex, Output.mapSide, h]

theorem errorState_pos_le (s : State) (side : Option Side) (e : DecodeError) : (errorState s side e).pos ≤ s.len :=
  Nat.lt_succ_iff.mp (Nat.mod_lt _ (Nat.succ_pos _))

/-! ## The rows -/

theorem pfxRow_of_lt {s : State} (h : s.pos < s.len) (f : PfxFlag) :
    pfxRow f s = .next { s with pfx := s.pfx.set f, pos := s.pos + 1 } := by
  simp [pfxRow, State.skip_of_le (show s.pos + 1 ≤ s.len from h)]

theorem pfxRow_truncated {s : State} (h : s.len < s.pos + 1) (f : PfxFlag) :
    pfxRow f s = .next (errorState s s.sideNow .truncated) := by
  simp [pfxRow, State.skip_of_lt h, raiseError_eq]

theorem rexRow_of_lt {s : State} (h : s.pos < s.len) (w r x b : Bool) :
    rexRow w r x b s =
      .next { s with rex := some { w := w, r := r, x := x, b := b }, pos := s.pos + 1, stage := .opcode } := by
  simp [rexRow, State.skip_of_le (show s.pos + 1 ≤ s.len from h)]

theorem rexRow_truncated {s : State} (h : s.len < s.pos + 1) (w r x b : Bool) :
    rexRow w r x b s = .next (errorState s s.sideNow .truncated) := by
  simp [rexRow, State.skip_of_lt h, raiseError_eq]

theorem opcodeRow_truncated {s : State} {o : OpcBytes} (h : s.len < s.pos + o.count) :
    opcodeRow o s = .next (errorState s (some { pfx := s.pfx, rex := s.rex }) .truncated) := by
  simp [opcodeRow, State.skip_of_lt (s := s.endScan) h, endScan_raiseError]

theorem opcodeRow_unknown {s : State} {o : OpcBytes} (h : s.pos + o.count ≤ s.len) (he : o.entry s.cfg = none) :
    opcodeRow o s = .next (errorState s (some { pfx := s.pfx, rex := s.rex }) .unknownOpcode) := by
  simp [opcodeRow, State.skip_of_le (s := s.endScan) h, he]
  rfl

theorem opcodeRow_resolved {s : State} {o : OpcBytes} {d : OpcodeDescriptor} (h : s.pos + o.count ≤ s.len)
    (he : o.entry s.cfg = some d) (hd : d.wf s.cfg.nslot = true) :
    opcodeRow o s = .next (resolvedState s o o.count d) := by
  rw [opcodeRow, State.skip_of_le (s := s.endScan) h]
  simp only [he, resolve, State.endScan, hd, if_true]
  rfl

theorem opcodeRow_refused {s : State} {o : OpcBytes} {d : OpcodeDescriptor} (h : s.pos + o.count ≤ s.len)
    (he : o.entry s.cfg = some d) (hd : d.wf s.cfg.nslot = false) : opcodeRow o s = .refused .illFormedDescriptor := by
  rw [opcodeRow, State.skip_of_le (s := s.endScan) h]
  simp [he, resolve, State.endScan, hd]

theorem regRow_truncated {s : State} (h : s.len < s.pos + 1) (mod : BitVec 2) (reg rm : BitVec 3) :
    regRow mod reg rm s = .next (errorState s s.sideNow .truncated) := by
  simp [regRow, State.skip_of_lt h, raiseError_eq]

theorem regRow_of_lt {s : State} {o : OperandDescriptor} (h : s.pos < s.len) (ho : s.regRole = some o)
    (mod : BitVec 2) (reg rm : BitVec 3) :
    regRow mod reg rm s = .next { s with
      pos := s.pos + 1, modrm := some { mod := mod, reg := reg, rm := rm }
      slots := s.slots.map fun l => l.set o.index (some (.reg (s.registerOf o.kind reg s.rexR))), stage := .rm } := by
  simp [regRow, State.skip_of_le (show s.pos + 1 ≤ s.len from h), ho, State.setSlot, regdes_ext4]

theorem regRow_refused {s : State} (h : s.pos < s.len) (ho : s.regRole = none) (mod : BitVec 2) (reg rm : BitVec 3) :
    regRow mod reg rm s = .refused .illFormedDescriptor := by
  simp [regRow, State.skip_of_le (show s.pos + 1 ≤ s.len from h), ho]

theorem invalidRow_eq (s : State) : invalidRow s = .next (errorState s s.sideNow .invalidEncoding) := rfl

theorem directRow_eq {s : State} {o : OperandDescriptor} (ho : s.opRole = some o) (rm : BitVec 3) :
    directRow rm s = .next { s with
      slots := s.slots.map fun l => l.set o.index (some (.reg (s.registerOf o.kind rm s.rexB))), stage := .fixed } := by
  simp [directRow, ho, storeOp, State.setSlot, regdes_ext4]

theorem followsRow_of_lt {s : State} (h : s.pos < s.len) :
    followsRow s =
      .next { s with pos := s.pos + 1, sib := some (Sib.ofByte (s.buf.read s.pos)), stage := .sib } := by
  simp [followsRow, State.readU8, show s.pos + 1 ≤ s.len from h]

theorem followsRow_truncated {s : State} (h : s.len < s.pos + 1) :
    followsRow s = .next (errorState s s.sideNow .truncated) := by
  simp [followsRow, State.readU8, show ¬ s.pos + 1 ≤ s.len by omega, raiseError_eq]

theorem memOp_refused {s : State} (ho : s.opRole = none) (k : MemMod)
    (e : OperandDescriptor → Option Int → MemoryExpr) : memOp k e s = .refused .illFormedDescriptor := by
  simp [memOp, ho]

theorem memOp_truncated {s : State} {o : OperandDescriptor} {k : MemMod} (ho : s.opRole = some o)
    (h : s.len < s.pos + k.dispBytes) (hp : s.pos ≤ s.len) (e : OperandDescriptor → Option Int → MemoryExpr) :
    memOp k e s = .next (errorState s s.sideNow .truncated) := by
  simp [memOp, ho, State.readDisp_of_lt h hp, raiseError_eq]

/-- A memory operand is stored: slots or no slots, the other registers the same way. -/
theorem memOp_stored {s : State} {o : OperandDescriptor} {k : MemMod} (ho : s.opRole = some o)
    (h : s.pos + k.dispBytes ≤ s.len) (e : OperandDescriptor → Option Int → MemoryExpr) :
    memOp k e s = .next { memState s k o.index [] (e o (s.dispAt k)) with
      slots := s.slots.map fun l => l.set o.index (some (.mem (e o (s.dispAt k)))) } := by
  simp [memOp, ho, State.readDisp_of_le h, storeOp, State.setSlot, memState]

theorem memOp_of_le {s : State} {o : OperandDescriptor} {k : MemMod} {l : List (Option Operand)}
    (ho : s.opRole = some o) (hl : s.slots = some l) (h : s.pos + k.dispBytes ≤ s.len)
    (e : OperandDescriptor → Option Int → MemoryExpr) :
    memOp k e s = .next (memState s k o.index l (e o (s.dispAt k))) := by
  rw [memOp_stored ho h, hl]; rfl

end Sys2Proof.Machine
end

