-- ==== Sys2Proof/Laws/Rows.lean ====
section
/-! SUPPORT. What exec does with a row, by the row's format: one lemma per format, so that no other proof splits over the
constructors of Instr. -/

namespace Sys2Proof.Machine

theorem exec_pfx {i : Instr} {f : PfxFlag} (h : i.row = .pfx f) (s : State) : exec i s = pfxRow f s := by
  cases i <;> cases h <;> rfl

theorem exec_rexByte {i : Instr} {w r x b : Bool} (h : i.row = .rexByte w r x b) (s : State) :
    exec i s = rexRow w r x b s := by
  cases i <;> cases h; rfl

theorem exec_oneByte {i : Instr} {o1 : Byte} (h : i.row = .oneByte o1) (s : State) :
    exec i s = opcodeRow (.one o1) s := by
  cases i <;> cases h; rfl

theorem exec_cell {i : Instr} {o1 : Byte} (h : i.row = .cell o1) (s : State) :
    exec i s = opcodeRow (.one o1) s := by
  cases i <;> cases h <;> rfl

theorem exec_twoByte {i : Instr} {o2 : Byte} (h : i.row = .twoByte o2) (s : State) :
    exec i s = opcodeRow (.two s.cfg.esc o2) s := by
  cases i <;> cases h; rfl

theorem exec_threeByteA {i : Instr} {o3 : Byte} (h : i.row = .threeByteA o3) (s : State) :
    exec i s = opcodeRow (.threeA s.cfg.esc s.cfg.selA o3) s := by
  cases i <;> cases h; rfl

theorem exec_threeByteB {i : Instr} {o3 : Byte} (h : i.row = .threeByteB o3) (s : State) :
    exec i s = opcodeRow (.threeB s.cfg.esc s.cfg.selB o3) s := by
  cases i <;> cases h; rfl

theorem exec_reg {i : Instr} {mod : BitVec 2} {reg rm : BitVec 3} (h : i.row = .reg mod reg rm) (s : State) :
    exec i s = regRow mod reg rm s := by
  cases i <;> cases h; rfl

theorem exec_direct_invalid {i : Instr} {rm : BitVec 3} (h : i.row = .direct true rm) (s : State) :
    exec i s = invalidRow s := by
  cases i <;> cases h; rfl

theorem exec_direct {i : Instr} {rm : BitVec 3} (h : i.row = .direct false rm) (s : State) :
    exec i s = directRow rm s := by
  cases i <;> cases h; rfl

theorem exec_follows {i : Instr} {k : MemMod} (h : i.row = .follows k) (s : State) : exec i s = followsRow s := by
  cases i <;> cases h <;> rfl

theorem exec_mem_invalid {i : Instr} {k : MemMod} {rm : BitVec 3} (h : i.row = .mem k rm true) (s : State) :
    exec i s = invalidRow s := by
  cases i <;> cases h <;> rfl

theorem exec_mem {i : Instr} {k : MemMod} {rm : BitVec 3} (h : i.row = .mem k rm false) (s : State) :
    exec i s = memRow k rm s := by
  cases i <;> cases h <;> rfl

/-- A SIB row whose base is not 5. -/
theorem exec_sib {i : Instr} {k : MemMod} {idx bs : BitVec 3} {ss : BitVec 2} (h : i.row = .sib k idx bs false ss)
    (s : State) : exec i s = sibBaseRow k idx bs ss s := by
  cases i <;> cases h <;> rfl

/-- A base-5 SIB row with `mod` 0. -/
theorem exec_sib_noBase {i : Instr} {idx bs : BitVec 3} {ss : BitVec 2} (h : i.row = .sib .m0 idx bs true ss)
    (s : State) : exec i s = sibNoBaseRow idx ss s := by
  cases i <;> cases h <;> rfl

/-- A base-5 SIB row with `mod` 1 or 2. -/
theorem exec_sib_base5 {i : Instr} {k : MemMod} {idx bs : BitVec 3} {ss : BitVec 2}
    (h : i.row = .sib k idx bs true ss) (hk : k ≠ .m0) (s : State) : exec i s = sibBase5Row k idx ss s := by
  cases i <;> cases h <;> first | rfl | exact absurd rfl hk

end Sys2Proof.Machine
end

