-- ==== Sys2Proof/Laws/Step.lean ====
section
/-! SUPPORT. What a step is: a form fetched and executed, or a move of the caller; and what the fetch reads. -/

namespace Sys2Proof.Machine

/-! ## The opcode rows together -/

theorem OpcBytes.entry_eq (o : OpcBytes) (p : Params) : o.entry p = cellOf p o := by cases o <;> rfl

/-- Every opcode row is the one shared operation on its opcode bytes, of which it consumes all. -/
theorem exec_opcodeOf {s : State} {i : Instr} {o : OpcBytes} (h : opcodeOf s.cfg i.row = some o) :
    exec i s = opcodeRow o s ∧ i.row.consumes = o.count := by
  cases hr : i.row <;> simp only [hr, opcodeOf, Option.some.injEq, reduceCtorEq] at h <;> subst h
  · exact ⟨exec_oneByte hr s, rfl⟩
  · exact ⟨exec_twoByte hr s, rfl⟩
  · exact ⟨exec_threeByteA hr s, rfl⟩
  · exact ⟨exec_threeByteB hr s, rfl⟩
  · exact ⟨exec_cell hr s, rfl⟩

/-- Every row that is no opcode row, each with the shared operation it is. -/
theorem row_cases (i : Instr) (s : State) :
    (∃ o, opcodeOf s.cfg i.row = some o ∧ exec i s = opcodeRow o s) ∨
    (∃ f, i.row = .pfx f ∧ exec i s = pfxRow f s) ∨
    (∃ w r x b, i.row = .rexByte w r x b ∧ exec i s = rexRow w r x b s) ∨
    (∃ mod reg rm, i.row = .reg mod reg rm ∧ exec i s = regRow mod reg rm s) ∨
    (((∃ rm, i.row = .direct true rm) ∨ ∃ k rm, i.row = .mem k rm true) ∧ exec i s = invalidRow s) ∨
    (∃ rm, i.row = .direct false rm ∧ exec i s = directRow rm s) ∨
    (∃ k, i.row = .follows k ∧ exec i s = followsRow s) ∨
    (∃ k rm, i.row = .mem k rm false ∧ exec i s = memRow k rm s) ∨
    (∃ k idx bs ss, i.row = .sib k idx bs false ss ∧ exec i s = sibBaseRow k idx bs ss s) ∨
    (∃ idx bs ss, i.row = .sib .m0 idx bs true ss ∧ exec i s = sibNoBaseRow idx ss s) ∨
    (∃ k idx bs ss, i.row = .sib k idx bs true ss ∧ k ≠ .m0 ∧ exec i s = sibBase5Row k idx ss s) := by
  cases hr : i.row with
  | pfx f => exact .inr (.inl ⟨f, rfl, exec_pfx hr s⟩)
  | rexByte w r x b => exact .inr (.inr (.inl ⟨w, r, x, b, rfl, exec_rexByte hr s⟩))
  | oneByte o1 => exact .inl ⟨_, rfl, exec_oneByte hr s⟩
  | twoByte o2 => exact .inl ⟨_, rfl, exec_twoByte hr s⟩
  | threeByteA o3 => exact .inl ⟨_, rfl, exec_threeByteA hr s⟩
  | threeByteB o3 => exact .inl ⟨_, rfl, exec_threeByteB hr s⟩
  | cell o1 => exact .inl ⟨_, rfl, exec_cell hr s⟩
  | reg mod reg rm => exact .inr (.inr (.inr (.inl ⟨mod, reg, rm, rfl, exec_reg hr s⟩)))
  | direct m rm =>
    cases m with
    | true => exact .inr (.inr (.inr (.inr (.inl ⟨.inl ⟨rm, rfl⟩, exec_direct_invalid hr s⟩))))
    | false => exact .inr (.inr (.inr (.inr (.inr (.inl ⟨rm, rfl, exec_direct hr s⟩)))))
  | follows k => exact .inr (.inr (.inr (.inr (.inr (.inr (.inl ⟨k, rfl, exec_follows hr s⟩))))))
  | mem k rm x =>
    cases x with
    | true => exact .inr (.inr (.inr (.inr (.inl ⟨.inr ⟨k, rm, rfl⟩, exec_mem_invalid hr s⟩))))
    | false => exact .inr (.inr (.inr (.inr (.inr (.inr (.inr (.inl ⟨k, rm, rfl, exec_mem hr s⟩)))))))
  | sib k idx bs base5 ss =>
    cases base5 with
    | false => exact .inr (.inr (.inr (.inr (.inr (.inr (.inr (.inr (.inl ⟨k, idx, bs, ss, rfl, exec_sib hr s⟩))))))))
    | true =>
      by_cases hk : k = .m0
      · subst hk
        exact .inr (.inr (.inr (.inr (.inr (.inr (.inr (.inr (.inr (.inl ⟨idx, bs, ss, rfl, exec_sib_noBase hr s⟩)))))))))
      · exact .inr (.inr (.inr (.inr (.inr (.inr (.inr (.inr (.inr (.inr
          ⟨k, idx, bs, ss, rfl, hk, exec_sib_base5 hr hk s⟩)))))))))

/-- What the opcode decoder reads is an opcode row. -/
theorem decodeOpcode_ok {p : Params} {v : Byte} {rest : List Byte} {i : Instr} (h : decodeOpcode p v rest = .ok i) :
    ∃ o, opcodeOf p i.row = some o := by
  unfold decodeOpcode at h
  split at h
  · injection h with h; subst h
    rw [oneByteInstr_row]
    split <;> exact ⟨_, rfl⟩
  · split at h
    · cases h
    · split at h
      · split at h
        · cases h
        · injection h with h; subst h; exact ⟨_, rfl⟩
      · split at h
        · split at h
          · cases h
          · injection h with h; subst h; exact ⟨_, rfl⟩
        · injection h with h; subst h; exact ⟨_, rfl⟩

/-! ## The bytes at hand -/

theorem State.bytesFrom_nil {s : State} {a : Nat} (h : s.len ≤ a) (n : Nat) : s.bytesFrom n a = [] := by
  cases n
  · rfl
  · exact if_neg (by omega)

theorem State.bytesFrom_cons {s : State} {a : Nat} (h : a < s.len) (n : Nat) :
    s.bytesFrom (n + 1) a = s.buf.read a :: s.bytesFrom n (a + 1) := if_pos h

theorem State.formBytes_stream {s : State} (h : s.stage = .scan ∨ s.stage = .opcode ∨ s.stage = .modrm) :
    s.formBytes = s.bytesFrom 3 s.pos := by
  rcases h with h | h | h <;> simp [State.formBytes, h]

/-! ## The step -/

/-- Between calls a step is one move of the caller. -/
theorem step_idle {s : State} (h : s.stage = .idle) : step s = hostStep s := by simp [step, h]

/-- In a call with the caller blocked a step is one form of the call. -/
theorem step_call {s : State} (h : s.stage ≠ .idle) (hq : s.quiet = true) : step s = callStep s := by
  unfold step
  split
  · contradiction
  · unfold State.quiet at hq
    split <;> simp_all

theorem step_reset {s : State} {rest : List HostMove} (h : s.stage ≠ .idle) (hh : s.host = .reset :: rest) :
    step s = .next { s.lostCall with host := rest } := by
  unfold step
  split
  · contradiction
  · simp [hh]

theorem step_start {s : State} {rest : List HostMove} (h : s.stage ≠ .idle) (hh : s.host = .start :: rest) :
    step s = .refused .overlappingCalls := by
  unfold step
  split
  · contradiction
  · simp [hh]

/-- In a call a step is a reset, the refusal of an overlapping start, or one form of the call. -/
theorem step_call_cases {s : State} (h : s.stage ≠ .idle) :
    (∃ rest, s.host = .reset :: rest ∧ step s = .next { s.lostCall with host := rest }) ∨
    (∃ rest, s.host = .start :: rest ∧ step s = .refused .overlappingCalls) ∨
    (s.quiet = true ∧ step s = callStep s) := by
  cases hh : s.host with
  | nil => exact .inr (.inr ⟨by simp [State.quiet, hh], step_call h (by simp [State.quiet, hh])⟩)
  | cons m rest =>
    cases m with
    | reset => exact .inl ⟨rest, rfl, step_reset h hh⟩
    | start => exact .inr (.inl ⟨rest, rfl, step_start h hh⟩)
    | await => exact .inr (.inr ⟨by simp [State.quiet, hh], step_call h (by simp [State.quiet, hh])⟩)
    | setPos p => exact .inr (.inr ⟨by simp [State.quiet, hh], step_call h (by simp [State.quiet, hh])⟩)
    | load b p => exact .inr (.inr ⟨by simp [State.quiet, hh], step_call h (by simp [State.quiet, hh])⟩)

theorem callStep_fixed {s : State} (h : s.stage = .fixed) : callStep s = fixresAndReturn s := by simp [callStep, h]

theorem callStep_ok {s : State} {i : Instr} (h : s.stage ≠ .fixed) (hf : s.fetch = .ok i) : callStep s = exec i s := by
  unfold callStep
  split
  · contradiction
  · simp [hf]

theorem callStep_truncated {s : State} (h : s.stage ≠ .fixed) (hf : s.fetch = .error .truncated) :
    callStep s = .next (truncatedFetch s) := by
  unfold callStep
  split
  · contradiction
  · simp [hf]

theorem callStep_noForm {s : State} (h : s.stage ≠ .fixed) (hf : s.fetch = .error .noForm) :
    callStep s = .refused .noForm := by
  unfold callStep
  split
  · contradiction
  · simp [hf]

/-! ## What the fetch reads -/

/-- At `scan` a byte that is there and is no prefix and no REX byte is the opcode's first. -/
theorem fetch_scan {s : State} (h : s.stage = .scan) (hl : s.pos < s.len) :
    s.fetch =
      match s.cfg.prefixOf (s.buf.read s.pos) with
      | some f => .ok (pfxInstr f)
      | none =>
        if isRexByte (s.buf.read s.pos) then .ok (rexInstr (s.buf.read s.pos))
        else decodeOpcode s.cfg (s.buf.read s.pos) (s.bytesFrom 2 (s.pos + 1)) := by
  simp only [State.fetch, State.formBytes_stream (.inl h), State.bytesFrom_cons hl, State.ctx, h, decode]
  try rfl

theorem fetch_opcode {s : State} (h : s.stage = .opcode) (hl : s.pos < s.len) :
    s.fetch = decodeOpcode s.cfg (s.buf.read s.pos) (s.bytesFrom 2 (s.pos + 1)) := by
  simp only [State.fetch, State.formBytes_stream (.inr (.inl h)), State.bytesFrom_cons hl, State.ctx, h, decode]

theorem fetch_modrm {s : State} (h : s.stage = .modrm) (hl : s.pos < s.len) :
    s.fetch =
      .ok (.modrmReg (bits76 (s.buf.read s.pos)) (bits53 (s.buf.read s.pos)) (bits20 (s.buf.read s.pos))) := by
  simp only [State.fetch, State.formBytes_stream (.inr (.inr h)), State.bytesFrom_cons hl, State.ctx, h, decode]

/-- With no byte left the stages that read the stream are short of bytes. -/
theorem fetch_end {s : State} (h : s.stage = .scan ∨ s.stage = .opcode ∨ s.stage = .modrm) (hl : s.len ≤ s.pos) :
    s.fetch = .error .truncated := by
  simp only [State.fetch, State.formBytes_stream h, State.bytesFrom_nil hl, State.ctx]
  rcases h with h | h | h <;> simp only [h, decode]

theorem fetch_rm {s : State} {v : ModRM} (h : s.stage = .rm) (hv : s.modrm = some v) :
    s.fetch = .ok (decodeRm s.ctx v) := by
  simp [State.fetch, State.formBytes, h, hv, State.ctx, decode]

theorem fetch_sib {s : State} {v : ModRM} {x : Sib} (h : s.stage = .sib) (hv : s.modrm = some v)
    (hx : s.sib = some x) : s.fetch = decodeSib s.cfg s.ctx v x := by
  simp [State.fetch, State.formBytes, h, hv, hx, State.ctx, decode]

/-- A "SIB follows" row comes from a ModRM byte that a SIB byte follows. -/
theorem decodeRm_row_follows {c : Ctx} {v : ModRM} {k : MemMod} (h : (decodeRm c v).row = .follows k) :
    v.hasSib = true := by
  rcases mod_cases v.mod with hm | ⟨k', hm⟩
  · rw [decodeRm_direct hm] at h
    split at h <;> cases h
  · by_cases hr : v.rm = 4#3
    · simp [ModRM.hasSib, hm, hr]
    · rw [decodeRm_mem hm hr, memInstr_row _ _ _ hr] at h
      cases h

/-- Which rows a ModRM byte can be, the reg operand apart. -/
theorem decodeRm_row (c : Ctx) (v : ModRM) :
    (∃ m, (decodeRm c v).row = .direct m v.rm) ∨ (∃ k, (decodeRm c v).row = .follows k) ∨
      ∃ k, (decodeRm c v).row = .mem k v.rm c.rexX := by
  rcases mod_cases v.mod with hm | ⟨k, hm⟩
  · rw [decodeRm_direct hm]
    split
    · exact .inl ⟨true, rfl⟩
    · exact .inl ⟨false, rfl⟩
  · by_cases hr : v.rm = 4#3
    · exact .inr (.inl ⟨k, by rw [decodeRm_follows hm hr, followsInstr_row]⟩)
    · exact .inr (.inr ⟨k, by rw [decodeRm_mem hm hr, memInstr_row _ _ _ hr]⟩)

/-- Which rows each stage of a call fetches. -/
inductive FetchedAt (s : State) (i : Instr) : Prop
  | pfx (hs : s.stage = .scan) (f : PfxFlag) (hr : i.row = .pfx f)
  | rexByte (hs : s.stage = .scan) (w r x b : Bool) (hr : i.row = .rexByte w r x b)
  | opcode (hs : s.stage = .scan ∨ s.stage = .opcode) (o : OpcBytes) (ho : opcodeOf s.cfg i.row = some o)
  | modrm (hs : s.stage = .modrm) (mod : BitVec 2) (reg rm : BitVec 3) (hr : i.row = .reg mod reg rm)
  | rm (hs : s.stage = .rm) (v : ModRM) (hv : s.modrm = some v) (hi : i = decodeRm s.ctx v)
  | sib (hs : s.stage = .sib) (v : ModRM) (x : Sib) (hv : s.modrm = some v) (hx : s.sib = some x) (k : MemMod)
      (hk : v.mod = k.field) (hr : i.row = .sib k x.idx x.bs (base5Test s.cfg x.bs s.rexB) x.ss)

theorem fetch_ok {s : State} {i : Instr} (h : s.fetch = .ok i) : FetchedAt s i := by
  cases hs : s.stage with
  | idle => simp [State.fetch, State.ctx, hs, decode] at h
  | fixed => simp [State.fetch, State.ctx, hs, decode] at h
  | scan =>
    by_cases hl : s.pos < s.len
    · rw [fetch_scan hs hl] at h
      split at h
      · cases h; exact .pfx hs _ (pfxInstr_row _)
      · split at h
        · cases h; exact .rexByte hs _ _ _ _ rfl
        · obtain ⟨o, ho⟩ := decodeOpcode_ok h; exact .opcode (.inl hs) o ho
    · rw [fetch_end (.inl hs) (by omega)] at h; cases h
  | opcode =>
    by_cases hl : s.pos < s.len
    · rw [fetch_opcode hs hl] at h
      obtain ⟨o, ho⟩ := decodeOpcode_ok h; exact .opcode (.inr hs) o ho
    · rw [fetch_end (.inr (.inl hs)) (by omega)] at h; cases h
  | modrm =>
    by_cases hl : s.pos < s.len
    · rw [fetch_modrm hs hl] at h; cases h; exact .modrm hs _ _ _ rfl
    · rw [fetch_end (.inr (.inr hs)) (by omega)] at h; cases h
  | rm =>
    cases hv : s.modrm with
    | none => simp [State.fetch, State.ctx, State.formBytes, hs, hv, decode] at h
    | some v => rw [fetch_rm hs hv] at h; cases h; exact .rm hs v hv rfl
  | sib =>
    cases hv : s.modrm with
    | none => simp [State.fetch, State.ctx, State.formBytes, hs, hv, decode] at h
    | some v =>
      cases hx : s.sib with
      | none => simp [State.fetch, State.ctx, State.formBytes, hs, hv, hx, decode] at h
      | some x =>
        rw [fetch_sib hs hv hx] at h
        rcases mod_cases v.mod with hm | ⟨k, hk⟩
        · simp [decodeSib, hm] at h
        · by_cases hr : v.rm = 4#3
          · rw [decodeSib_ok hk hr] at h; cases h
            exact .sib hs v x hv hx k hk (sibInstr_row _ _ _ _ _ base5Test_bs)
          · simp [decodeSib, hk, hr] at h

/-- Truncated at the fetch, in the terms of the statements: at `scan` with a byte there PFXSCAN and REXDEC are done. -/
theorem truncatedFetch_eq (s : State) :
    truncatedFetch s =
      errorState s (if s.stage = .scan ∧ s.len ≤ s.pos then none else some { pfx := s.pfx, rex := s.rex })
        .truncated := by
  unfold truncatedFetch
  split
  · rename_i hs hf
    have hl : ¬ s.len ≤ s.pos := fun hl => by
      rw [State.formBytes_stream (.inl hs), State.bytesFrom_nil hl] at hf; cases hf
    simp [endScan_raiseError, hl]
  · rename_i h
    by_cases hs : s.stage = .scan
    · have hl : s.len ≤ s.pos := by
        by_contra hl
        exact h _ _ hs (by rw [State.formBytes_stream (.inl hs), State.bytesFrom_cons (by omega)])
      simp [raiseError_eq, sideNow_eq, hs, hl]
    · simp [raiseError_eq, sideNow_eq, hs]

end Sys2Proof.Machine
end

