-- ==== Sys2Proof/Laws/Next.lean ====
section
/-! SUPPORT. Everything a row, FIXRES, a move of the caller and a step can do when they answer a next state: one inversion
lemma for each, so that an invariant or a frame is a short case analysis. -/

namespace Sys2Proof.Machine

/-! ## The shared operations, inverted -/

theorem opcodeRow_next {s t : State} {o : OpcBytes} (h : opcodeRow o s = .next t) :
    (∃ e, t = errorState s (some { pfx := s.pfx, rex := s.rex }) e) ∨
    ∃ d, o.entry s.cfg = some d ∧ d.wf s.cfg.nslot = true ∧ s.pos + o.count ≤ s.len ∧
      t = resolvedState s o o.count d := by
  by_cases hp : s.pos + o.count ≤ s.len
  · cases he : o.entry s.cfg with
    | none =>
      rw [opcodeRow_unknown hp he] at h
      cases h
      exact .inl ⟨_, rfl⟩
    | some d =>
      cases hd : d.wf s.cfg.nslot with
      | false =>
        rw [opcodeRow_refused hp he hd] at h
        cases h
      | true =>
        rw [opcodeRow_resolved hp he hd] at h
        cases h
        exact .inr ⟨d, rfl, hd, hp, rfl⟩
  · rw [opcodeRow_truncated (by omega)] at h
    cases h
    exact .inl ⟨_, rfl⟩

/-- The displacement is there, or there is none to read, or the primitive fails. -/
theorem State.readDisp_cases (s : State) (k : MemMod) :
    (s.pos + k.dispBytes ≤ max s.pos s.len ∧
      s.readDisp k = some (s.dispAt k, { s with pos := s.pos + k.dispBytes, disp := s.dispAfter k })) ∨
    (s.len < s.pos + k.dispBytes ∧ s.readDisp k = none) := by
  by_cases hp : s.pos + k.dispBytes ≤ s.len
  · exact .inl ⟨by omega, State.readDisp_of_le hp⟩
  · cases k with
    | m0 => exact .inl ⟨by simp [MemMod.dispBytes], rfl⟩
    | m1 => exact .inr ⟨by omega, by simp only [MemMod.dispBytes] at hp; simp [State.readDisp, State.readI8]; omega⟩
    | m2 => exact .inr ⟨by omega, by simp only [MemMod.dispBytes] at hp; simp [State.readDisp, State.readI32]; omega⟩

theorem memOp_next {s t : State} {k : MemMod} {f : OperandDescriptor → Option Int → MemoryExpr}
    (h : memOp k f s = .next t) :
    (s.len < s.pos + k.dispBytes ∧ t = errorState s s.sideNow .truncated) ∨
    ∃ o, s.opRole = some o ∧ s.pos + k.dispBytes ≤ max s.pos s.len ∧ t = { s with
      pos := s.pos + k.dispBytes, disp := s.dispAfter k
      slots := s.slots.map fun l => l.set o.index (some (.mem (f o (s.dispAt k)))), stage := .fixed } := by
  cases ho : s.opRole with
  | none =>
    rw [memOp_refused ho] at h
    cases h
  | some o =>
    rcases s.readDisp_cases k with ⟨hp, hr⟩ | ⟨hp, hr⟩ <;> simp only [memOp, ho, hr] at h <;> cases h
    · exact .inr ⟨o, rfl, hp, rfl⟩
    · exact .inl ⟨hp, rfl⟩

/-! ## The rows, inverted -/

/-- What a row leaves when it answers a next state. -/
inductive RowEffect (s : State) (i : Instr) : State → Prop
  /-- The call ended with an error: but for an opcode row, a row that has bytes fails only for want of them. -/
  | error (side : Option Side) (e : DecodeError)
      (h : s.stage ≠ .scan ∨ opcodeOf s.cfg i.row ≠ none → side = some { pfx := s.pfx, rex := s.rex })
      (hp : opcodeOf s.cfg i.row = none → i.row.consumes ≠ 0 → s.len < s.pos + i.row.consumes) :
    RowEffect s i (errorState s side e)
  /-- An opcode row resolved a well-formed descriptor. -/
  | opcode (o : OpcBytes) (d : OpcodeDescriptor) (ho : opcodeOf s.cfg i.row = some o) (he : o.entry s.cfg = some d)
      (hd : d.wf s.cfg.nslot = true) (hp : s.pos + o.count ≤ s.len) : RowEffect s i (resolvedState s o o.count d)
  /-- A PREFIX row. -/
  | pfx (f : PfxFlag) (hr : i.row = .pfx f) (hp : s.pos < s.len) :
    RowEffect s i { s with pfx := s.pfx.set f, pos := s.pos + 1 }
  /-- The REX row. -/
  | rexByte (w r x b : Bool) (hr : i.row = .rexByte w r x b) (hp : s.pos < s.len) :
    RowEffect s i { s with rex := some { w := w, r := r, x := x, b := b }, pos := s.pos + 1, stage := .opcode }
  /-- MODRM_REG. -/
  | reg (mod : BitVec 2) (reg rm : BitVec 3) (o : OperandDescriptor) (hr : i.row = .reg mod reg rm) (hp : s.pos < s.len)
      (ho : s.regRole = some o) : RowEffect s i { s with
        pos := s.pos + 1, modrm := some { mod := mod, reg := reg, rm := rm }
        slots := s.slots.map fun l => l.set o.index (some (.reg (s.registerOf o.kind reg s.rexR))), stage := .rm }
  /-- MODRM_REGDIRECT. -/
  | direct (rm : BitVec 3) (o : OperandDescriptor) (hr : i.row = .direct false rm) (ho : s.opRole = some o) :
    RowEffect s i { s with
      slots := s.slots.map fun l => l.set o.index (some (.reg (s.registerOf o.kind rm s.rexB))), stage := .fixed }
  /-- A "SIB follows" row. -/
  | follows (k : MemMod) (hr : i.row = .follows k) (hp : s.pos < s.len) :
    RowEffect s i { s with pos := s.pos + 1, sib := some (Sib.ofByte (s.buf.read s.pos)), stage := .sib }
  /-- A row that builds a memory operand. -/
  | mem (k : MemMod) (o : OperandDescriptor) (e : MemoryExpr) (hb : i.row.buildsMem = true)
      (hc : i.row.consumes = k.dispBytes) (ho : s.opRole = some o) (hp : s.pos + k.dispBytes ≤ max s.pos s.len)
      (he : e.sixShapes = true) : RowEffect s i { s with
        pos := s.pos + k.dispBytes, disp := s.dispAfter k
        slots := s.slots.map fun l => l.set o.index (some (.mem e)), stage := .fixed }

/-- A row that is no opcode row shows the side output of the stage it runs at. -/
theorem RowEffect.errorNow {s : State} {i : Instr} (ho : opcodeOf s.cfg i.row = none)
    (hp : i.row.consumes ≠ 0 → s.len < s.pos + i.row.consumes) (e : DecodeError) :
    RowEffect s i (errorState s s.sideNow e) :=
  .error _ _ (fun h => by simp [sideNow_eq, h.resolve_right fun h => h ho]) fun _ => hp

theorem opcodeOf_of_buildsMem {p : Params} {r : Row} (h : r.buildsMem = true) : opcodeOf p r = none := by
  cases r <;> first | rfl | cases h

theorem RowEffect.of_memOp {s t : State} {i : Instr} {k : MemMod} {f : OperandDescriptor → Option Int → MemoryExpr}
    (h : memOp k f s = .next t) (hb : i.row.buildsMem = true) (hc : i.row.consumes = k.dispBytes)
    (he : ∀ o, (f o (s.dispAt k)).sixShapes = true) : RowEffect s i t := by
  rcases memOp_next h with ⟨hp, rfl⟩ | ⟨o, ho, hp, rfl⟩
  · exact RowEffect.errorNow (opcodeOf_of_buildsMem hb) (fun _ => hc ▸ hp) _
  · exact .mem k o _ hb hc ho hp (he o)

/-- Everything a row can do when it answers a next state. -/
theorem exec_next {s t : State} {i : Instr} (h : exec i s = .next t) : RowEffect s i t := by
  rcases row_cases i s with ⟨o, hr, e⟩ | ⟨f, hr, e⟩ | ⟨w, r, x, b, hr, e⟩ | ⟨mod, reg, rm, hr, e⟩ | ⟨hr, e⟩ |
    ⟨rm, hr, e⟩ | ⟨k, hr, e⟩ | ⟨k, rm, hr, e⟩ | ⟨k, idx, bs, ss, hr, e⟩ | ⟨idx, bs, ss, hr, e⟩ |
    ⟨k, idx, bs, ss, hr, hk, e⟩ <;> rw [e] at h
  · rcases opcodeRow_next h with ⟨e, rfl⟩ | ⟨d, h1, h2, h3, rfl⟩
    · exact .error _ _ (fun _ => rfl) fun h => nomatch hr.symm.trans h
    · exact .opcode o d hr h1 h2 h3
  · by_cases hp : s.pos < s.len
    · rw [pfxRow_of_lt hp] at h; cases h; exact .pfx f hr hp
    · rw [pfxRow_truncated (by omega)] at h; cases h; exact RowEffect.errorNow (by rw [hr]; rfl) (fun _ => by rw [hr]; simp only [Row.consumes]; omega) _
  · by_cases hp : s.pos < s.len
    · rw [rexRow_of_lt hp] at h; cases h; exact .rexByte w r x b hr hp
    · rw [rexRow_truncated (by omega)] at h; cases h; exact RowEffect.errorNow (by rw [hr]; rfl) (fun _ => by rw [hr]; simp only [Row.consumes]; omega) _
  · by_cases hp : s.pos < s.len
    · cases ho : s.regRole with
      | none => rw [regRow_refused hp ho] at h; cases h
      | some o => rw [regRow_of_lt hp ho] at h; cases h; exact .reg mod reg rm o hr hp ho
    · rw [regRow_truncated (by omega)] at h; cases h; exact RowEffect.errorNow (by rw [hr]; rfl) (fun _ => by rw [hr]; simp only [Row.consumes]; omega) _
  · cases h
    rcases hr with ⟨_, hr⟩ | ⟨_, _, hr⟩
    · exact RowEffect.errorNow (by rw [hr]; rfl) (fun h => absurd (by rw [hr]; rfl) h) _
    · exact RowEffect.errorNow (by rw [hr]; rfl) (fun h => absurd (by rw [hr]; rfl) h) _
  · cases ho : s.opRole with
    | none => simp [directRow, ho] at h
    | some o => rw [directRow_eq ho] at h; cases h; exact .direct rm o hr ho
  · by_cases hp : s.pos < s.len
    · rw [followsRow_of_lt hp] at h; cases h; exact .follows k hr hp
    · rw [followsRow_truncated (by omega)] at h; cases h; exact RowEffect.errorNow (by rw [hr]; rfl) (fun _ => by rw [hr]; simp only [Row.consumes]; omega) _
  · exact .of_memOp h (by rw [hr]; rfl) (by rw [hr]; rfl) fun o => by simp [MemoryExpr.sixShapes, baseExpr]
  · exact .of_memOp h (by rw [hr]; rfl) (by rw [hr]; cases k <;> rfl) fun o => by
      simp [MemoryExpr.sixShapes, baseExpr]
  · exact .of_memOp (k := .m2) h (by rw [hr]; rfl) (by rw [hr]; rfl) fun o => by
      simp [MemoryExpr.sixShapes, noBaseExpr, State.dispAt]
  · exact .of_memOp h (by rw [hr]; rfl) (by rw [hr]; cases k <;> first | rfl | contradiction) fun o => by
      simp [MemoryExpr.sixShapes, base5Expr]

/-! ## FIXRES and the return -/

theorem fixresAndReturn_next {s t : State} (h : fixresAndReturn s = .next t) :
    ∃ d l ops, s.desc = some d ∧ s.slots = some l ∧ collectSlots (fixSlots s.rexB d.operands l) = some ops ∧
      t = s.returnOk { tag := d.tag, operands := ops } := by
  unfold fixresAndReturn at h
  split at h
  · split at h
    · cases h; exact ⟨_, _, _, ‹_›, ‹_›, ‹_›, rfl⟩
    · cases h
  · cases h

/-- FIXRES leaves the length of the slot array. -/
@[simp] theorem fixSlots_length (b : Bool) (ops : List OperandDescriptor) (l : List (Option Operand)) :
    (fixSlots b ops l).length = l.length := by
  induction ops generalizing l with
  | nil => rfl
  | cons o rest ih =>
    have h1 : fixSlots b (o :: rest) l = fixSlots b rest (fixSlot b l o) := rfl
    have h2 : (fixSlot b l o).length = l.length := by
      simp only [fixSlot]
      split
      · split <;> simp
      · rfl
    rw [h1, ih, h2]

/-- The operands are the slots, when none is empty. -/
theorem collectSlots_eq_some {l : List (Option Operand)} {ops : List Operand} :
    collectSlots l = some ops ↔ l = ops.map some := by
  induction l generalizing ops with
  | nil => cases ops <;> simp [collectSlots]
  | cons x rest ih =>
    cases x with
    | none => cases ops <;> simp [collectSlots]
    | some v =>
      cases ops with
      | nil => simp [collectSlots]
      | cons w ws => simp [collectSlots, ih]; tauto

/-! ## A step, inverted -/

/-- What a step of a call leaves. -/
inductive CallEffect (s : State) : State → Prop
  /-- A row was fetched and executed. -/
  | row (i : Instr) (t : State) (hf : s.fetch = .ok i) (hs : s.stage ≠ .fixed) (ht : RowEffect s i t) : CallEffect s t
  /-- The fetch found no byte; the side output is shown unless PFXSCAN itself ran out. -/
  | truncated (hf : s.fetch = .error .truncated) : CallEffect s (errorState s
      (if s.stage = .scan ∧ s.len ≤ s.pos then none else some { pfx := s.pfx, rex := s.rex }) .truncated)
  /-- FIXRES and the return. -/
  | fixed (d : OpcodeDescriptor) (l : List (Option Operand)) (ops : List Operand) (hs : s.stage = .fixed)
      (hd : s.desc = some d) (hl : s.slots = some l) (hc : collectSlots (fixSlots s.rexB d.operands l) = some ops) :
    CallEffect s (s.returnOk { tag := d.tag, operands := ops })
  /-- The caller reset the block. -/
  | reset (rest : List HostMove) (hh : s.host = .reset :: rest) : CallEffect s { s.lostCall with host := rest }

/-- Everything a step of a call can do when it answers a next state. -/
theorem step_next_call {s t : State} (hs : s.stage ≠ .idle) (h : step s = .next t) : CallEffect s t := by
  rcases step_call_cases hs with ⟨rest, hh, e⟩ | ⟨rest, hh, e⟩ | ⟨hq, e⟩ <;> rw [e] at h
  · cases h; exact .reset rest hh
  · cases h
  · by_cases hfix : s.stage = .fixed
    · rw [callStep_fixed hfix] at h
      obtain ⟨d, l, ops, hd, hl, hc, rfl⟩ := fixresAndReturn_next h
      exact .fixed d l ops hfix hd hl hc
    · cases hf : s.fetch with
      | ok i => rw [callStep_ok hfix hf] at h; exact .row i t hf hfix (exec_next h)
      | error r =>
        cases r with
        | truncated =>
          rw [callStep_truncated hfix hf, truncatedFetch_eq] at h; cases h; exact .truncated hf
        | noForm => rw [callStep_noForm hfix hf] at h; cases h

/-- What a move of the caller leaves. -/
inductive HostEffect (s : State) : State → Prop
  | nothing (hh : s.host = []) : HostEffect s s
  | start (rest : List HostMove) (hh : s.host = .start :: rest) : HostEffect s { s.beginCall with host := rest }
  | await (rest : List HostMove) (hh : s.host = .await :: rest) : HostEffect s { s with host := rest }
  | setPos (p : Nat) (rest : List HostMove) (hh : s.host = .setPos p :: rest) (hp : p ≤ s.len) :
    HostEffect s { s with pos := p, host := rest }
  | load (bytes : List Byte) (p : Nat) (rest : List HostMove) (hh : s.host = .load bytes p :: rest)
      (hb : bytes.length < 2 ^ s.cfg.posBits) (hp : p ≤ bytes.length) :
    HostEffect s { s with buf := Memory.ofBytes bytes, len := bytes.length, pos := p, host := rest }
  | reset (rest : List HostMove) (hh : s.host = .reset :: rest) : HostEffect s { s.resetBlock with host := rest }

/-- Everything a step between calls can do when it answers a next state. -/
theorem step_next_idle {s t : State} (hs : s.stage = .idle) (h : step s = .next t) : HostEffect s t := by
  rw [step_idle hs] at h
  unfold hostStep at h
  split at h
  · cases h; exact .nothing ‹_›
  · cases h; exact .start _ ‹_›
  · cases h; exact .await _ ‹_›
  · split at h
    · cases h; exact .setPos _ _ ‹_› ‹_›
    · cases h
  · split at h
    · split at h
      · cases h; exact .load _ _ _ ‹_› ‹_› ‹_›
      · cases h
    · cases h
  · cases h; exact .reset _ ‹_›

end Sys2Proof.Machine
end

