-- ==== Sys2Proof/Laws/PerInstr.lean ====
section
/-! SUPPORT. The per-instruction family EncodedLength: how many bytes of the stream a row of the opcode table covers
(30_encoding.md R100, R120), one lemma per constructor of Instr. -/

namespace Sys2Proof.Laws

/-- The bytes a row covers, by its format: ModRM for a MODRM row, ModRM and SIB for a MODRM_SIB row, the whole opcode
for an opcode row, the one byte of a prefix or of REX. -/
def EncodedLength.bytes (i : Instr) : Nat :=
  match i.row with
  | .pfx _ | .rexByte _ _ _ _ | .oneByte _ | .cell _ | .reg _ _ _ | .direct _ _ | .follows _ | .mem _ _ _ => 1
  | .twoByte _ | .sib _ _ _ _ _ => 2
  | .threeByteA _ | .threeByteB _ => 3

/-- A well-formed row's encoding is as many bytes as its format says, under any parameters. -/
def EncodedLength.Statement (i : Instr) : Prop :=
  ∀ (cfg : Params) (reg : BitVec 3), i.wellFormed cfg = true → (encodeWith reg cfg i).length = EncodedLength.bytes i


theorem EncodedLength.of_pfx (i : Instr) (f : PfxFlag) (hi : i.row = .pfx f) : EncodedLength.Statement i := by
  intro cfg reg h
  simp only [Instr.wellFormed, hi, Params.pfxEntryOk] at h
  simp only [encodeWith, hi, encodeRow, EncodedLength.bytes]
  cases hb : cfg.byteOfFlag f with
  | none => simp [hb] at h
  | some b => rfl

theorem EncodedLength.pfxLock : EncodedLength.Statement .pfxLock := EncodedLength.of_pfx _ _ rfl
theorem EncodedLength.pfxCs : EncodedLength.Statement .pfxCs := EncodedLength.of_pfx _ _ rfl
theorem EncodedLength.pfxSs : EncodedLength.Statement .pfxSs := EncodedLength.of_pfx _ _ rfl
theorem EncodedLength.pfxDs : EncodedLength.Statement .pfxDs := EncodedLength.of_pfx _ _ rfl
theorem EncodedLength.pfxEs : EncodedLength.Statement .pfxEs := EncodedLength.of_pfx _ _ rfl
theorem EncodedLength.pfxFs : EncodedLength.Statement .pfxFs := EncodedLength.of_pfx _ _ rfl
theorem EncodedLength.pfxGs : EncodedLength.Statement .pfxGs := EncodedLength.of_pfx _ _ rfl
theorem EncodedLength.pfxRepne : EncodedLength.Statement .pfxRepne := EncodedLength.of_pfx _ _ rfl
theorem EncodedLength.pfxRep : EncodedLength.Statement .pfxRep := EncodedLength.of_pfx _ _ rfl
theorem EncodedLength.pfxHintNotTaken : EncodedLength.Statement .pfxHintNotTaken := EncodedLength.of_pfx _ _ rfl
theorem EncodedLength.pfxHintTaken : EncodedLength.Statement .pfxHintTaken := EncodedLength.of_pfx _ _ rfl
theorem EncodedLength.pfxOpsize : EncodedLength.Statement .pfxOpsize := EncodedLength.of_pfx _ _ rfl
theorem EncodedLength.pfxAddrsize : EncodedLength.Statement .pfxAddrsize := EncodedLength.of_pfx _ _ rfl
theorem EncodedLength.rex (w r x b : Bool) : EncodedLength.Statement (.rex w r x b) := fun _ _ _ => rfl
theorem EncodedLength.opcOneByte (o1 : Byte) : EncodedLength.Statement (.opcOneByte o1) := fun _ _ _ => rfl
theorem EncodedLength.escTwoByte (o2 : Byte) : EncodedLength.Statement (.escTwoByte o2) := fun _ _ _ => rfl
theorem EncodedLength.escThreeByteA (o3 : Byte) : EncodedLength.Statement (.escThreeByteA o3) := fun _ _ _ => rfl
theorem EncodedLength.escThreeByteB (o3 : Byte) : EncodedLength.Statement (.escThreeByteB o3) := fun _ _ _ => rfl
theorem EncodedLength.t1C3 : EncodedLength.Statement .t1C3 := fun _ _ _ => rfl
theorem EncodedLength.t189 : EncodedLength.Statement .t189 := fun _ _ _ => rfl
theorem EncodedLength.modrmReg (mod : BitVec 2) (reg rm : BitVec 3) : EncodedLength.Statement (.modrmReg mod reg rm) := fun _ _ _ => rfl
theorem EncodedLength.modrmRegdirectInvalid (rm : BitVec 3) : EncodedLength.Statement (.modrmRegdirectInvalid rm) := fun _ _ _ => rfl
theorem EncodedLength.modrmRegdirect (rm : BitVec 3) : EncodedLength.Statement (.modrmRegdirect rm) := fun _ _ _ => rfl
theorem EncodedLength.modrmSibFollowsMod0 : EncodedLength.Statement .modrmSibFollowsMod0 := fun _ _ _ => rfl
theorem EncodedLength.modrmSibFollowsMod1 : EncodedLength.Statement .modrmSibFollowsMod1 := fun _ _ _ => rfl
theorem EncodedLength.modrmSibFollowsMod2 : EncodedLength.Statement .modrmSibFollowsMod2 := fun _ _ _ => rfl
theorem EncodedLength.modrmMemMod0Rm0Rexx : EncodedLength.Statement .modrmMemMod0Rm0Rexx := fun _ _ _ => rfl
theorem EncodedLength.modrmMemMod0Rm0 : EncodedLength.Statement .modrmMemMod0Rm0 := fun _ _ _ => rfl
theorem EncodedLength.modrmMemMod0Rm1Rexx : EncodedLength.Statement .modrmMemMod0Rm1Rexx := fun _ _ _ => rfl
theorem EncodedLength.modrmMemMod0Rm1 : EncodedLength.Statement .modrmMemMod0Rm1 := fun _ _ _ => rfl
theorem EncodedLength.modrmMemMod0Rm2Rexx : EncodedLength.Statement .modrmMemMod0Rm2Rexx := fun _ _ _ => rfl
theorem EncodedLength.modrmMemMod0Rm2 : EncodedLength.Statement .modrmMemMod0Rm2 := fun _ _ _ => rfl
theorem EncodedLength.modrmMemMod0Rm3Rexx : EncodedLength.Statement .modrmMemMod0Rm3Rexx := fun _ _ _ => rfl
theorem EncodedLength.modrmMemMod0Rm3 : EncodedLength.Statement .modrmMemMod0Rm3 := fun _ _ _ => rfl
theorem EncodedLength.modrmMemMod0Rm5Rexx : EncodedLength.Statement .modrmMemMod0Rm5Rexx := fun _ _ _ => rfl
theorem EncodedLength.modrmMemMod0Rm5 : EncodedLength.Statement .modrmMemMod0Rm5 := fun _ _ _ => rfl
theorem EncodedLength.modrmMemMod0Rm6Rexx : EncodedLength.Statement .modrmMemMod0Rm6Rexx := fun _ _ _ => rfl
theorem EncodedLength.modrmMemMod0Rm6 : EncodedLength.Statement .modrmMemMod0Rm6 := fun _ _ _ => rfl
theorem EncodedLength.modrmMemMod0Rm7Rexx : EncodedLength.Statement .modrmMemMod0Rm7Rexx := fun _ _ _ => rfl
theorem EncodedLength.modrmMemMod0Rm7 : EncodedLength.Statement .modrmMemMod0Rm7 := fun _ _ _ => rfl
theorem EncodedLength.modrmMemMod1Rm0Rexx : EncodedLength.Statement .modrmMemMod1Rm0Rexx := fun _ _ _ => rfl
theorem EncodedLength.modrmMemMod1Rm0 : EncodedLength.Statement .modrmMemMod1Rm0 := fun _ _ _ => rfl
theorem EncodedLength.modrmMemMod1Rm1Rexx : EncodedLength.Statement .modrmMemMod1Rm1Rexx := fun _ _ _ => rfl
theorem EncodedLength.modrmMemMod1Rm1 : EncodedLength.Statement .modrmMemMod1Rm1 := fun _ _ _ => rfl
theorem EncodedLength.modrmMemMod1Rm2Rexx : EncodedLength.Statement .modrmMemMod1Rm2Rexx := fun _ _ _ => rfl
theorem EncodedLength.modrmMemMod1Rm2 : EncodedLength.Statement .modrmMemMod1Rm2 := fun _ _ _ => rfl
theorem EncodedLength.modrmMemMod1Rm3Rexx : EncodedLength.Statement .modrmMemMod1Rm3Rexx := fun _ _ _ => rfl
theorem EncodedLength.modrmMemMod1Rm3 : EncodedLength.Statement .modrmMemMod1Rm3 := fun _ _ _ => rfl
theorem EncodedLength.modrmMemMod1Rm5Rexx : EncodedLength.Statement .modrmMemMod1Rm5Rexx := fun _ _ _ => rfl
theorem EncodedLength.modrmMemMod1Rm5 : EncodedLength.Statement .modrmMemMod1Rm5 := fun _ _ _ => rfl
theorem EncodedLength.modrmMemMod1Rm6Rexx : EncodedLength.Statement .modrmMemMod1Rm6Rexx := fun _ _ _ => rfl
theorem EncodedLength.modrmMemMod1Rm6 : EncodedLength.Statement .modrmMemMod1Rm6 := fun _ _ _ => rfl
theorem EncodedLength.modrmMemMod1Rm7Rexx : EncodedLength.Statement .modrmMemMod1Rm7Rexx := fun _ _ _ => rfl
theorem EncodedLength.modrmMemMod1Rm7 : EncodedLength.Statement .modrmMemMod1Rm7 := fun _ _ _ => rfl
theorem EncodedLength.modrmMemMod2Rm0Rexx : EncodedLength.Statement .modrmMemMod2Rm0Rexx := fun _ _ _ => rfl
theorem EncodedLength.modrmMemMod2Rm0 : EncodedLength.Statement .modrmMemMod2Rm0 := fun _ _ _ => rfl
theorem EncodedLength.modrmMemMod2Rm1Rexx : EncodedLength.Statement .modrmMemMod2Rm1Rexx := fun _ _ _ => rfl
theorem EncodedLength.modrmMemMod2Rm1 : EncodedLength.Statement .modrmMemMod2Rm1 := fun _ _ _ => rfl
theorem EncodedLength.modrmMemMod2Rm2Rexx : EncodedLength.Statement .modrmMemMod2Rm2Rexx := fun _ _ _ => rfl
theorem EncodedLength.modrmMemMod2Rm2 : EncodedLength.Statement .modrmMemMod2Rm2 := fun _ _ _ => rfl
theorem EncodedLength.modrmMemMod2Rm3Rexx : EncodedLength.Statement .modrmMemMod2Rm3Rexx := fun _ _ _ => rfl
theorem EncodedLength.modrmMemMod2Rm3 : EncodedLength.Statement .modrmMemMod2Rm3 := fun _ _ _ => rfl
theorem EncodedLength.modrmMemMod2Rm5Rexx : EncodedLength.Statement .modrmMemMod2Rm5Rexx := fun _ _ _ => rfl
theorem EncodedLength.modrmMemMod2Rm5 : EncodedLength.Statement .modrmMemMod2Rm5 := fun _ _ _ => rfl
theorem EncodedLength.modrmMemMod2Rm6Rexx : EncodedLength.Statement .modrmMemMod2Rm6Rexx := fun _ _ _ => rfl
theorem EncodedLength.modrmMemMod2Rm6 : EncodedLength.Statement .modrmMemMod2Rm6 := fun _ _ _ => rfl
theorem EncodedLength.modrmMemMod2Rm7Rexx : EncodedLength.Statement .modrmMemMod2Rm7Rexx := fun _ _ _ => rfl
theorem EncodedLength.modrmMemMod2Rm7 : EncodedLength.Statement .modrmMemMod2Rm7 := fun _ _ _ => rfl
theorem EncodedLength.sibMod0Idx0Bs0 (ss : BitVec 2) : EncodedLength.Statement (.sibMod0Idx0Bs0 ss) := fun _ _ _ => rfl
theorem EncodedLength.sibMod0Idx0Bs1 (ss : BitVec 2) : EncodedLength.Statement (.sibMod0Idx0Bs1 ss) := fun _ _ _ => rfl
theorem EncodedLength.sibMod0Idx0Bs2 (ss : BitVec 2) : EncodedLength.Statement (.sibMod0Idx0Bs2 ss) := fun _ _ _ => rfl
theorem EncodedLength.sibMod0Idx0Bs3 (ss : BitVec 2) : EncodedLength.Statement (.sibMod0Idx0Bs3 ss) := fun _ _ _ => rfl
theorem EncodedLength.sibMod0Idx0Bs4 (ss : BitVec 2) : EncodedLength.Statement (.sibMod0Idx0Bs4 ss) := fun _ _ _ => rfl
theorem EncodedLength.sibMod0Idx0Bs5B5 (ss : BitVec 2) : EncodedLength.Statement (.sibMod0Idx0Bs5B5 ss) := fun _ _ _ => rfl
theorem EncodedLength.sibMod0Idx0Bs5B13 (ss : BitVec 2) : EncodedLength.Statement (.sibMod0Idx0Bs5B13 ss) := fun _ _ _ => rfl
theorem EncodedLength.sibMod0Idx0Bs6 (ss : BitVec 2) : EncodedLength.Statement (.sibMod0Idx0Bs6 ss) := fun _ _ _ => rfl
theorem EncodedLength.sibMod0Idx0Bs7 (ss : BitVec 2) : EncodedLength.Statement (.sibMod0Idx0Bs7 ss) := fun _ _ _ => rfl
theorem EncodedLength.sibMod0Idx1Bs0 (ss : BitVec 2) : EncodedLength.Statement (.sibMod0Idx1Bs0 ss) := fun _ _ _ => rfl
theorem EncodedLength.sibMod0Idx1Bs1 (ss : BitVec 2) : EncodedLength.Statement (.sibMod0Idx1Bs1 ss) := fun _ _ _ => rfl
theorem EncodedLength.sibMod0Idx1Bs2 (ss : BitVec 2) : EncodedLength.Statement (.sibMod0Idx1Bs2 ss) := fun _ _ _ => rfl
theorem EncodedLength.sibMod0Idx1Bs3 (ss : BitVec 2) : EncodedLength.Statement (.sibMod0Idx1Bs3 ss) := fun _ _ _ => rfl
theorem EncodedLength.sibMod0Idx1Bs4 (ss : BitVec 2) : EncodedLength.Statement (.sibMod0Idx1Bs4 ss) := fun _ _ _ => rfl
theorem EncodedLength.sibMod0Idx1Bs5B5 (ss : BitVec 2) : EncodedLength.Statement (.sibMod0Idx1Bs5B5 ss) := fun _ _ _ => rfl
theorem EncodedLength.sibMod0Idx1Bs5B13 (ss : BitVec 2) : EncodedLength.Statement (.sibMod0Idx1Bs5B13 ss) := fun _ _ _ => rfl
theorem EncodedLength.sibMod0Idx1Bs6 (ss : BitVec 2) : EncodedLength.Statement (.sibMod0Idx1Bs6 ss) := fun _ _ _ => rfl
theorem EncodedLength.sibMod0Idx1Bs7 (ss : BitVec 2) : EncodedLength.Statement (.sibMod0Idx1Bs7 ss) := fun _ _ _ => rfl
theorem EncodedLength.sibMod0Idx2Bs0 (ss : BitVec 2) : EncodedLength.Statement (.sibMod0Idx2Bs0 ss) := fun _ _ _ => rfl
theorem EncodedLength.sibMod0Idx2Bs1 (ss : BitVec 2) : EncodedLength.Statement (.sibMod0Idx2Bs1 ss) := fun _ _ _ => rfl
theorem EncodedLength.sibMod0Idx2Bs2 (ss : BitVec 2) : EncodedLength.Statement (.sibMod0Idx2Bs2 ss) := fun _ _ _ => rfl
theorem EncodedLength.sibMod0Idx2Bs3 (ss : BitVec 2) : EncodedLength.Statement (.sibMod0Idx2Bs3 ss) := fun _ _ _ => rfl
theorem EncodedLength.sibMod0Idx2Bs4 (ss : BitVec 2) : EncodedLength.Statement (.sibMod0Idx2Bs4 ss) := fun _ _ _ => rfl
theorem EncodedLength.sibMod0Idx2Bs5B5 (ss : BitVec 2) : EncodedLength.Statement (.sibMod0Idx2Bs5B5 ss) := fun _ _ _ => rfl
theorem EncodedLength.sibMod0Idx2Bs5B13 (ss : BitVec 2) : EncodedLength.Statement (.sibMod0Idx2Bs5B13 ss) := fun _ _ _ => rfl
theorem EncodedLength.sibMod0Idx2Bs6 (ss : BitVec 2) : EncodedLength.Statement (.sibMod0Idx2Bs6 ss) := fun _ _ _ => rfl
theorem EncodedLength.sibMod0Idx2Bs7 (ss : BitVec 2) : EncodedLength.Statement (.sibMod0Idx2Bs7 ss) := fun _ _ _ => rfl
theorem EncodedLength.sibMod0Idx3Bs0 (ss : BitVec 2) : EncodedLength.Statement (.sibMod0Idx3Bs0 ss) := fun _ _ _ => rfl
theorem EncodedLength.sibMod0Idx3Bs1 (ss : BitVec 2) : EncodedLength.Statement (.sibMod0Idx3Bs1 ss) := fun _ _ _ => rfl
theorem EncodedLength.sibMod0Idx3Bs2 (ss : BitVec 2) : EncodedLength.Statement (.sibMod0Idx3Bs2 ss) := fun _ _ _ => rfl
theorem EncodedLength.sibMod0Idx3Bs3 (ss : BitVec 2) : EncodedLength.Statement (.sibMod0Idx3Bs3 ss) := fun _ _ _ => rfl
theorem EncodedLength.sibMod0Idx3Bs4 (ss : BitVec 2) : EncodedLength.Statement (.sibMod0Idx3Bs4 ss) := fun _ _ _ => rfl
theorem EncodedLength.sibMod0Idx3Bs5B5 (ss : BitVec 2) : EncodedLength.Statement (.sibMod0Idx3Bs5B5 ss) := fun _ _ _ => rfl
theorem EncodedLength.sibMod0Idx3Bs5B13 (ss : BitVec 2) : EncodedLength.Statement (.sibMod0Idx3Bs5B13 ss) := fun _ _ _ => rfl
theorem EncodedLength.sibMod0Idx3Bs6 (ss : BitVec 2) : EncodedLength.Statement (.sibMod0Idx3Bs6 ss) := fun _ _ _ => rfl
theorem EncodedLength.sibMod0Idx3Bs7 (ss : BitVec 2) : EncodedLength.Statement (.sibMod0Idx3Bs7 ss) := fun _ _ _ => rfl
theorem EncodedLength.sibMod0Idx4Bs0 (ss : BitVec 2) : EncodedLength.Statement (.sibMod0Idx4Bs0 ss) := fun _ _ _ => rfl
theorem EncodedLength.sibMod0Idx4Bs1 (ss : BitVec 2) : EncodedLength.Statement (.sibMod0Idx4Bs1 ss) := fun _ _ _ => rfl
theorem EncodedLength.sibMod0Idx4Bs2 (ss : BitVec 2) : EncodedLength.Statement (.sibMod0Idx4Bs2 ss) := fun _ _ _ => rfl
theorem EncodedLength.sibMod0Idx4Bs3 (ss : BitVec 2) : EncodedLength.Statement (.sibMod0Idx4Bs3 ss) := fun _ _ _ => rfl
theorem EncodedLength.sibMod0Idx4Bs4 (ss : BitVec 2) : EncodedLength.Statement (.sibMod0Idx4Bs4 ss) := fun _ _ _ => rfl
theorem EncodedLength.sibMod0Idx4Bs5B5 (ss : BitVec 2) : EncodedLength.Statement (.sibMod0Idx4Bs5B5 ss) := fun _ _ _ => rfl
theorem EncodedLength.sibMod0Idx4Bs5B13 (ss : BitVec 2) : EncodedLength.Statement (.sibMod0Idx4Bs5B13 ss) := fun _ _ _ => rfl
theorem EncodedLength.sibMod0Idx4Bs6 (ss : BitVec 2) : EncodedLength.Statement (.sibMod0Idx4Bs6 ss) := fun _ _ _ => rfl
theorem EncodedLength.sibMod0Idx4Bs7 (ss : BitVec 2) : EncodedLength.Statement (.sibMod0Idx4Bs7 ss) := fun _ _ _ => rfl
theorem EncodedLength.sibMod0Idx5Bs0 (ss : BitVec 2) : EncodedLength.Statement (.sibMod0Idx5Bs0 ss) := fun _ _ _ => rfl
theorem EncodedLength.sibMod0Idx5Bs1 (ss : BitVec 2) : EncodedLength.Statement (.sibMod0Idx5Bs1 ss) := fun _ _ _ => rfl
theorem EncodedLength.sibMod0Idx5Bs2 (ss : BitVec 2) : EncodedLength.Statement (.sibMod0Idx5Bs2 ss) := fun _ _ _ => rfl
theorem EncodedLength.sibMod0Idx5Bs3 (ss : BitVec 2) : EncodedLength.Statement (.sibMod0Idx5Bs3 ss) := fun _ _ _ => rfl
theorem EncodedLength.sibMod0Idx5Bs4 (ss : BitVec 2) : EncodedLength.Statement (.sibMod0Idx5Bs4 ss) := fun _ _ _ => rfl
theorem EncodedLength.sibMod0Idx5Bs5B5 (ss : BitVec 2) : EncodedLength.Statement (.sibMod0Idx5Bs5B5 ss) := fun _ _ _ => rfl
theorem EncodedLength.sibMod0Idx5Bs5B13 (ss : BitVec 2) : EncodedLength.Statement (.sibMod0Idx5Bs5B13 ss) := fun _ _ _ => rfl
theorem EncodedLength.sibMod0Idx5Bs6 (ss : BitVec 2) : EncodedLength.Statement (.sibMod0Idx5Bs6 ss) := fun _ _ _ => rfl
theorem EncodedLength.sibMod0Idx5Bs7 (ss : BitVec 2) : EncodedLength.Statement (.sibMod0Idx5Bs7 ss) := fun _ _ _ => rfl
theorem EncodedLength.sibMod0Idx6Bs0 (ss : BitVec 2) : EncodedLength.Statement (.sibMod0Idx6Bs0 ss) := fun _ _ _ => rfl
theorem EncodedLength.sibMod0Idx6Bs1 (ss : BitVec 2) : EncodedLength.Statement (.sibMod0Idx6Bs1 ss) := fun _ _ _ => rfl
theorem EncodedLength.sibMod0Idx6Bs2 (ss : BitVec 2) : EncodedLength.Statement (.sibMod0Idx6Bs2 ss) := fun _ _ _ => rfl
theorem EncodedLength.sibMod0Idx6Bs3 (ss : BitVec 2) : EncodedLength.Statement (.sibMod0Idx6Bs3 ss) := fun _ _ _ => rfl
theorem EncodedLength.sibMod0Idx6Bs4 (ss : BitVec 2) : EncodedLength.Statement (.sibMod0Idx6Bs4 ss) := fun _ _ _ => rfl
theorem EncodedLength.sibMod0Idx6Bs5B5 (ss : BitVec 2) : EncodedLength.Statement (.sibMod0Idx6Bs5B5 ss) := fun _ _ _ => rfl
theorem EncodedLength.sibMod0Idx6Bs5B13 (ss : BitVec 2) : EncodedLength.Statement (.sibMod0Idx6Bs5B13 ss) := fun _ _ _ => rfl
theorem EncodedLength.sibMod0Idx6Bs6 (ss : BitVec 2) : EncodedLength.Statement (.sibMod0Idx6Bs6 ss) := fun _ _ _ => rfl
theorem EncodedLength.sibMod0Idx6Bs7 (ss : BitVec 2) : EncodedLength.Statement (.sibMod0Idx6Bs7 ss) := fun _ _ _ => rfl
theorem EncodedLength.sibMod0Idx7Bs0 (ss : BitVec 2) : EncodedLength.Statement (.sibMod0Idx7Bs0 ss) := fun _ _ _ => rfl
theorem EncodedLength.sibMod0Idx7Bs1 (ss : BitVec 2) : EncodedLength.Statement (.sibMod0Idx7Bs1 ss) := fun _ _ _ => rfl
theorem EncodedLength.sibMod0Idx7Bs2 (ss : BitVec 2) : EncodedLength.Statement (.sibMod0Idx7Bs2 ss) := fun _ _ _ => rfl
theorem EncodedLength.sibMod0Idx7Bs3 (ss : BitVec 2) : EncodedLength.Statement (.sibMod0Idx7Bs3 ss) := fun _ _ _ => rfl
theorem EncodedLength.sibMod0Idx7Bs4 (ss : BitVec 2) : EncodedLength.Statement (.sibMod0Idx7Bs4 ss) := fun _ _ _ => rfl
theorem EncodedLength.sibMod0Idx7Bs5B5 (ss : BitVec 2) : EncodedLength.Statement (.sibMod0Idx7Bs5B5 ss) := fun _ _ _ => rfl
theorem EncodedLength.sibMod0Idx7Bs5B13 (ss : BitVec 2) : EncodedLength.Statement (.sibMod0Idx7Bs5B13 ss) := fun _ _ _ => rfl
theorem EncodedLength.sibMod0Idx7Bs6 (ss : BitVec 2) : EncodedLength.Statement (.sibMod0Idx7Bs6 ss) := fun _ _ _ => rfl
theorem EncodedLength.sibMod0Idx7Bs7 (ss : BitVec 2) : EncodedLength.Statement (.sibMod0Idx7Bs7 ss) := fun _ _ _ => rfl
theorem EncodedLength.sibMod1Idx0Bs0 (ss : BitVec 2) : EncodedLength.Statement (.sibMod1Idx0Bs0 ss) := fun _ _ _ => rfl
theorem EncodedLength.sibMod1Idx0Bs1 (ss : BitVec 2) : EncodedLength.Statement (.sibMod1Idx0Bs1 ss) := fun _ _ _ => rfl
theorem EncodedLength.sibMod1Idx0Bs2 (ss : BitVec 2) : EncodedLength.Statement (.sibMod1Idx0Bs2 ss) := fun _ _ _ => rfl
theorem EncodedLength.sibMod1Idx0Bs3 (ss : BitVec 2) : EncodedLength.Statement (.sibMod1Idx0Bs3 ss) := fun _ _ _ => rfl
theorem EncodedLength.sibMod1Idx0Bs4 (ss : BitVec 2) : EncodedLength.Statement (.sibMod1Idx0Bs4 ss) := fun _ _ _ => rfl
theorem EncodedLength.sibMod1Idx0Bs5B5 (ss : BitVec 2) : EncodedLength.Statement (.sibMod1Idx0Bs5B5 ss) := fun _ _ _ => rfl
theorem EncodedLength.sibMod1Idx0Bs5B13 (ss : BitVec 2) : EncodedLength.Statement (.sibMod1Idx0Bs5B13 ss) := fun _ _ _ => rfl
theorem EncodedLength.sibMod1Idx0Bs6 (ss : BitVec 2) : EncodedLength.Statement (.sibMod1Idx0Bs6 ss) := fun _ _ _ => rfl
theorem EncodedLength.sibMod1Idx0Bs7 (ss : BitVec 2) : EncodedLength.Statement (.sibMod1Idx0Bs7 ss) := fun _ _ _ => rfl
theorem EncodedLength.sibMod1Idx1Bs0 (ss : BitVec 2) : EncodedLength.Statement (.sibMod1Idx1Bs0 ss) := fun _ _ _ => rfl
theorem EncodedLength.sibMod1Idx1Bs1 (ss : BitVec 2) : EncodedLength.Statement (.sibMod1Idx1Bs1 ss) := fun _ _ _ => rfl
theorem EncodedLength.sibMod1Idx1Bs2 (ss : BitVec 2) : EncodedLength.Statement (.sibMod1Idx1Bs2 ss) := fun _ _ _ => rfl
theorem EncodedLength.sibMod1Idx1Bs3 (ss : BitVec 2) : EncodedLength.Statement (.sibMod1Idx1Bs3 ss) := fun _ _ _ => rfl
theorem EncodedLength.sibMod1Idx1Bs4 (ss : BitVec 2) : EncodedLength.Statement (.sibMod1Idx1Bs4 ss) := fun _ _ _ => rfl
theorem EncodedLength.sibMod1Idx1Bs5B5 (ss : BitVec 2) : EncodedLength.Statement (.sibMod1Idx1Bs5B5 ss) := fun _ _ _ => rfl
theorem EncodedLength.sibMod1Idx1Bs5B13 (ss : BitVec 2) : EncodedLength.Statement (.sibMod1Idx1Bs5B13 ss) := fun _ _ _ => rfl
theorem EncodedLength.sibMod1Idx1Bs6 (ss : BitVec 2) : EncodedLength.Statement (.sibMod1Idx1Bs6 ss) := fun _ _ _ => rfl
theorem EncodedLength.sibMod1Idx1Bs7 (ss : BitVec 2) : EncodedLength.Statement (.sibMod1Idx1Bs7 ss) := fun _ _ _ => rfl
theorem EncodedLength.sibMod1Idx2Bs0 (ss : BitVec 2) : EncodedLength.Statement (.sibMod1Idx2Bs0 ss) := fun _ _ _ => rfl
theorem EncodedLength.sibMod1Idx2Bs1 (ss : BitVec 2) : EncodedLength.Statement (.sibMod1Idx2Bs1 ss) := fun _ _ _ => rfl
theorem EncodedLength.sibMod1Idx2Bs2 (ss : BitVec 2) : EncodedLength.Statement (.sibMod1Idx2Bs2 ss) := fun _ _ _ => rfl
theorem EncodedLength.sibMod1Idx2Bs3 (ss : BitVec 2) : EncodedLength.Statement (.sibMod1Idx2Bs3 ss) := fun _ _ _ => rfl
theorem EncodedLength.sibMod1Idx2Bs4 (ss : BitVec 2) : EncodedLength.Statement (.sibMod1Idx2Bs4 ss) := fun _ _ _ => rfl
theorem EncodedLength.sibMod1Idx2Bs5B5 (ss : BitVec 2) : EncodedLength.Statement (.sibMod1Idx2Bs5B5 ss) := fun _ _ _ => rfl
theorem EncodedLength.sibMod1Idx2Bs5B13 (ss : BitVec 2) : EncodedLength.Statement (.sibMod1Idx2Bs5B13 ss) := fun _ _ _ => rfl
theorem EncodedLength.sibMod1Idx2Bs6 (ss : BitVec 2) : EncodedLength.Statement (.sibMod1Idx2Bs6 ss) := fun _ _ _ => rfl
theorem EncodedLength.sibMod1Idx2Bs7 (ss : BitVec 2) : EncodedLength.Statement (.sibMod1Idx2Bs7 ss) := fun _ _ _ => rfl
theorem EncodedLength.sibMod1Idx3Bs0 (ss : BitVec 2) : EncodedLength.Statement (.sibMod1Idx3Bs0 ss) := fun _ _ _ => rfl
theorem EncodedLength.sibMod1Idx3Bs1 (ss : BitVec 2) : EncodedLength.Statement (.sibMod1Idx3Bs1 ss) := fun _ _ _ => rfl
theorem EncodedLength.sibMod1Idx3Bs2 (ss : BitVec 2) : EncodedLength.Statement (.sibMod1Idx3Bs2 ss) := fun _ _ _ => rfl
theorem EncodedLength.sibMod1Idx3Bs3 (ss : BitVec 2) : EncodedLength.Statement (.sibMod1Idx3Bs3 ss) := fun _ _ _ => rfl
theorem EncodedLength.sibMod1Idx3Bs4 (ss : BitVec 2) : EncodedLength.Statement (.sibMod1Idx3Bs4 ss) := fun _ _ _ => rfl
theorem EncodedLength.sibMod1Idx3Bs5B5 (ss : BitVec 2) : EncodedLength.Statement (.sibMod1Idx3Bs5B5 ss) := fun _ _ _ => rfl
theorem EncodedLength.sibMod1Idx3Bs5B13 (ss : BitVec 2) : EncodedLength.Statement (.sibMod1Idx3Bs5B13 ss) := fun _ _ _ => rfl
theorem EncodedLength.sibMod1Idx3Bs6 (ss : BitVec 2) : EncodedLength.Statement (.sibMod1Idx3Bs6 ss) := fun _ _ _ => rfl
theorem EncodedLength.sibMod1Idx3Bs7 (ss : BitVec 2) : EncodedLength.Statement (.sibMod1Idx3Bs7 ss) := fun _ _ _ => rfl
theorem EncodedLength.sibMod1Idx4Bs0 (ss : BitVec 2) : EncodedLength.Statement (.sibMod1Idx4Bs0 ss) := fun _ _ _ => rfl
theorem EncodedLength.sibMod1Idx4Bs1 (ss : BitVec 2) : EncodedLength.Statement (.sibMod1Idx4Bs1 ss) := fun _ _ _ => rfl
theorem EncodedLength.sibMod1Idx4Bs2 (ss : BitVec 2) : EncodedLength.Statement (.sibMod1Idx4Bs2 ss) := fun _ _ _ => rfl
theorem EncodedLength.sibMod1Idx4Bs3 (ss : BitVec 2) : EncodedLength.Statement (.sibMod1Idx4Bs3 ss) := fun _ _ _ => rfl
theorem EncodedLength.sibMod1Idx4Bs4 (ss : BitVec 2) : EncodedLength.Statement (.sibMod1Idx4Bs4 ss) := fun _ _ _ => rfl
theorem EncodedLength.sibMod1Idx4Bs5B5 (ss : BitVec 2) : EncodedLength.Statement (.sibMod1Idx4Bs5B5 ss) := fun _ _ _ => rfl
theorem EncodedLength.sibMod1Idx4Bs5B13 (ss : BitVec 2) : EncodedLength.Statement (.sibMod1Idx4Bs5B13 ss) := fun _ _ _ => rfl
theorem EncodedLength.sibMod1Idx4Bs6 (ss : BitVec 2) : EncodedLength.Statement (.sibMod1Idx4Bs6 ss) := fun _ _ _ => rfl
theorem EncodedLength.sibMod1Idx4Bs7 (ss : BitVec 2) : EncodedLength.Statement (.sibMod1Idx4Bs7 ss) := fun _ _ _ => rfl
theorem EncodedLength.sibMod1Idx5Bs0 (ss : BitVec 2) : EncodedLength.Statement (.sibMod1Idx5Bs0 ss) := fun _ _ _ => rfl
theorem EncodedLength.sibMod1Idx5Bs1 (ss : BitVec 2) : EncodedLength.Statement (.sibMod1Idx5Bs1 ss) := fun _ _ _ => rfl
theorem EncodedLength.sibMod1Idx5Bs2 (ss : BitVec 2) : EncodedLength.Statement (.sibMod1Idx5Bs2 ss) := fun _ _ _ => rfl
theorem EncodedLength.sibMod1Idx5Bs3 (ss : BitVec 2) : EncodedLength.Statement (.sibMod1Idx5Bs3 ss) := fun _ _ _ => rfl
theorem EncodedLength.sibMod1Idx5Bs4 (ss : BitVec 2) : EncodedLength.Statement (.sibMod1Idx5Bs4 ss) := fun _ _ _ => rfl
theorem EncodedLength.sibMod1Idx5Bs5B5 (ss : BitVec 2) : EncodedLength.Statement (.sibMod1Idx5Bs5B5 ss) := fun _ _ _ => rfl
theorem EncodedLength.sibMod1Idx5Bs5B13 (ss : BitVec 2) : EncodedLength.Statement (.sibMod1Idx5Bs5B13 ss) := fun _ _ _ => rfl
theorem EncodedLength.sibMod1Idx5Bs6 (ss : BitVec 2) : EncodedLength.Statement (.sibMod1Idx5Bs6 ss) := fun _ _ _ => rfl
theorem EncodedLength.sibMod1Idx5Bs7 (ss : BitVec 2) : EncodedLength.Statement (.sibMod1Idx5Bs7 ss) := fun _ _ _ => rfl
theorem EncodedLength.sibMod1Idx6Bs0 (ss : BitVec 2) : EncodedLength.Statement (.sibMod1Idx6Bs0 ss) := fun _ _ _ => rfl
theorem EncodedLength.sibMod1Idx6Bs1 (ss : BitVec 2) : EncodedLength.Statement (.sibMod1Idx6Bs1 ss) := fun _ _ _ => rfl
theorem EncodedLength.sibMod1Idx6Bs2 (ss : BitVec 2) : EncodedLength.Statement (.sibMod1Idx6Bs2 ss) := fun _ _ _ => rfl
theorem EncodedLength.sibMod1Idx6Bs3 (ss : BitVec 2) : EncodedLength.Statement (.sibMod1Idx6Bs3 ss) := fun _ _ _ => rfl
theorem EncodedLength.sibMod1Idx6Bs4 (ss : BitVec 2) : EncodedLength.Statement (.sibMod1Idx6Bs4 ss) := fun _ _ _ => rfl
theorem EncodedLength.sibMod1Idx6Bs5B5 (ss : BitVec 2) : EncodedLength.Statement (.sibMod1Idx6Bs5B5 ss) := fun _ _ _ => rfl
theorem EncodedLength.sibMod1Idx6Bs5B13 (ss : BitVec 2) : EncodedLength.Statement (.sibMod1Idx6Bs5B13 ss) := fun _ _ _ => rfl
theorem EncodedLength.sibMod1Idx6Bs6 (ss : BitVec 2) : EncodedLength.Statement (.sibMod1Idx6Bs6 ss) := fun _ _ _ => rfl
theorem EncodedLength.sibMod1Idx6Bs7 (ss : BitVec 2) : EncodedLength.Statement (.sibMod1Idx6Bs7 ss) := fun _ _ _ => rfl
theorem EncodedLength.sibMod1Idx7Bs0 (ss : BitVec 2) : EncodedLength.Statement (.sibMod1Idx7Bs0 ss) := fun _ _ _ => rfl
theorem EncodedLength.sibMod1Idx7Bs1 (ss : BitVec 2) : EncodedLength.Statement (.sibMod1Idx7Bs1 ss) := fun _ _ _ => rfl
theorem EncodedLength.sibMod1Idx7Bs2 (ss : BitVec 2) : EncodedLength.Statement (.sibMod1Idx7Bs2 ss) := fun _ _ _ => rfl
theorem EncodedLength.sibMod1Idx7Bs3 (ss : BitVec 2) : EncodedLength.Statement (.sibMod1Idx7Bs3 ss) := fun _ _ _ => rfl
theorem EncodedLength.sibMod1Idx7Bs4 (ss : BitVec 2) : EncodedLength.Statement (.sibMod1Idx7Bs4 ss) := fun _ _ _ => rfl
theorem EncodedLength.sibMod1Idx7Bs5B5 (ss : BitVec 2) : EncodedLength.Statement (.sibMod1Idx7Bs5B5 ss) := fun _ _ _ => rfl
theorem EncodedLength.sibMod1Idx7Bs5B13 (ss : BitVec 2) : EncodedLength.Statement (.sibMod1Idx7Bs5B13 ss) := fun _ _ _ => rfl
theorem EncodedLength.sibMod1Idx7Bs6 (ss : BitVec 2) : EncodedLength.Statement (.sibMod1Idx7Bs6 ss) := fun _ _ _ => rfl
theorem EncodedLength.sibMod1Idx7Bs7 (ss : BitVec 2) : EncodedLength.Statement (.sibMod1Idx7Bs7 ss) := fun _ _ _ => rfl
theorem EncodedLength.sibMod2Idx0Bs0 (ss : BitVec 2) : EncodedLength.Statement (.sibMod2Idx0Bs0 ss) := fun _ _ _ => rfl
theorem EncodedLength.sibMod2Idx0Bs1 (ss : BitVec 2) : EncodedLength.Statement (.sibMod2Idx0Bs1 ss) := fun _ _ _ => rfl
theorem EncodedLength.sibMod2Idx0Bs2 (ss : BitVec 2) : EncodedLength.Statement (.sibMod2Idx0Bs2 ss) := fun _ _ _ => rfl
theorem EncodedLength.sibMod2Idx0Bs3 (ss : BitVec 2) : EncodedLength.Statement (.sibMod2Idx0Bs3 ss) := fun _ _ _ => rfl
theorem EncodedLength.sibMod2Idx0Bs4 (ss : BitVec 2) : EncodedLength.Statement (.sibMod2Idx0Bs4 ss) := fun _ _ _ => rfl
theorem EncodedLength.sibMod2Idx0Bs5B5 (ss : BitVec 2) : EncodedLength.Statement (.sibMod2Idx0Bs5B5 ss) := fun _ _ _ => rfl
theorem EncodedLength.sibMod2Idx0Bs5B13 (ss : BitVec 2) : EncodedLength.Statement (.sibMod2Idx0Bs5B13 ss) := fun _ _ _ => rfl
theorem EncodedLength.sibMod2Idx0Bs6 (ss : BitVec 2) : EncodedLength.Statement (.sibMod2Idx0Bs6 ss) := fun _ _ _ => rfl
theorem EncodedLength.sibMod2Idx0Bs7 (ss : BitVec 2) : EncodedLength.Statement (.sibMod2Idx0Bs7 ss) := fun _ _ _ => rfl
theorem EncodedLength.sibMod2Idx1Bs0 (ss : BitVec 2) : EncodedLength.Statement (.sibMod2Idx1Bs0 ss) := fun _ _ _ => rfl
theorem EncodedLength.sibMod2Idx1Bs1 (ss : BitVec 2) : EncodedLength.Statement (.sibMod2Idx1Bs1 ss) := fun _ _ _ => rfl
theorem EncodedLength.sibMod2Idx1Bs2 (ss : BitVec 2) : EncodedLength.Statement (.sibMod2Idx1Bs2 ss) := fun _ _ _ => rfl
theorem EncodedLength.sibMod2Idx1Bs3 (ss : BitVec 2) : EncodedLength.Statement (.sibMod2Idx1Bs3 ss) := fun _ _ _ => rfl
theorem EncodedLength.sibMod2Idx1Bs4 (ss : BitVec 2) : EncodedLength.Statement (.sibMod2Idx1Bs4 ss) := fun _ _ _ => rfl
theorem EncodedLength.sibMod2Idx1Bs5B5 (ss : BitVec 2) : EncodedLength.Statement (.sibMod2Idx1Bs5B5 ss) := fun _ _ _ => rfl
theorem EncodedLength.sibMod2Idx1Bs5B13 (ss : BitVec 2) : EncodedLength.Statement (.sibMod2Idx1Bs5B13 ss) := fun _ _ _ => rfl
theorem EncodedLength.sibMod2Idx1Bs6 (ss : BitVec 2) : EncodedLength.Statement (.sibMod2Idx1Bs6 ss) := fun _ _ _ => rfl
theorem EncodedLength.sibMod2Idx1Bs7 (ss : BitVec 2) : EncodedLength.Statement (.sibMod2Idx1Bs7 ss) := fun _ _ _ => rfl
theorem EncodedLength.sibMod2Idx2Bs0 (ss : BitVec 2) : EncodedLength.Statement (.sibMod2Idx2Bs0 ss) := fun _ _ _ => rfl
theorem EncodedLength.sibMod2Idx2Bs1 (ss : BitVec 2) : EncodedLength.Statement (.sibMod2Idx2Bs1 ss) := fun _ _ _ => rfl
theorem EncodedLength.sibMod2Idx2Bs2 (ss : BitVec 2) : EncodedLength.Statement (.sibMod2Idx2Bs2 ss) := fun _ _ _ => rfl
theorem EncodedLength.sibMod2Idx2Bs3 (ss : BitVec 2) : EncodedLength.Statement (.sibMod2Idx2Bs3 ss) := fun _ _ _ => rfl
theorem EncodedLength.sibMod2Idx2Bs4 (ss : BitVec 2) : EncodedLength.Statement (.sibMod2Idx2Bs4 ss) := fun _ _ _ => rfl
theorem EncodedLength.sibMod2Idx2Bs5B5 (ss : BitVec 2) : EncodedLength.Statement (.sibMod2Idx2Bs5B5 ss) := fun _ _ _ => rfl
theorem EncodedLength.sibMod2Idx2Bs5B13 (ss : BitVec 2) : EncodedLength.Statement (.sibMod2Idx2Bs5B13 ss) := fun _ _ _ => rfl
theorem EncodedLength.sibMod2Idx2Bs6 (ss : BitVec 2) : EncodedLength.Statement (.sibMod2Idx2Bs6 ss) := fun _ _ _ => rfl
theorem EncodedLength.sibMod2Idx2Bs7 (ss : BitVec 2) : EncodedLength.Statement (.sibMod2Idx2Bs7 ss) := fun _ _ _ => rfl
theorem EncodedLength.sibMod2Idx3Bs0 (ss : BitVec 2) : EncodedLength.Statement (.sibMod2Idx3Bs0 ss) := fun _ _ _ => rfl
theorem EncodedLength.sibMod2Idx3Bs1 (ss : BitVec 2) : EncodedLength.Statement (.sibMod2Idx3Bs1 ss) := fun _ _ _ => rfl
theorem EncodedLength.sibMod2Idx3Bs2 (ss : BitVec 2) : EncodedLength.Statement (.sibMod2Idx3Bs2 ss) := fun _ _ _ => rfl
theorem EncodedLength.sibMod2Idx3Bs3 (ss : BitVec 2) : EncodedLength.Statement (.sibMod2Idx3Bs3 ss) := fun _ _ _ => rfl
theorem EncodedLength.sibMod2Idx3Bs4 (ss : BitVec 2) : EncodedLength.Statement (.sibMod2Idx3Bs4 ss) := fun _ _ _ => rfl
theorem EncodedLength.sibMod2Idx3Bs5B5 (ss : BitVec 2) : EncodedLength.Statement (.sibMod2Idx3Bs5B5 ss) := fun _ _ _ => rfl
theorem EncodedLength.sibMod2Idx3Bs5B13 (ss : BitVec 2) : EncodedLength.Statement (.sibMod2Idx3Bs5B13 ss) := fun _ _ _ => rfl
theorem EncodedLength.sibMod2Idx3Bs6 (ss : BitVec 2) : EncodedLength.Statement (.sibMod2Idx3Bs6 ss) := fun _ _ _ => rfl
theorem EncodedLength.sibMod2Idx3Bs7 (ss : BitVec 2) : EncodedLength.Statement (.sibMod2Idx3Bs7 ss) := fun _ _ _ => rfl
theorem EncodedLength.sibMod2Idx4Bs0 (ss : BitVec 2) : EncodedLength.Statement (.sibMod2Idx4Bs0 ss) := fun _ _ _ => rfl
theorem EncodedLength.sibMod2Idx4Bs1 (ss : BitVec 2) : EncodedLength.Statement (.sibMod2Idx4Bs1 ss) := fun _ _ _ => rfl
theorem EncodedLength.sibMod2Idx4Bs2 (ss : BitVec 2) : EncodedLength.Statement (.sibMod2Idx4Bs2 ss) := fun _ _ _ => rfl
theorem EncodedLength.sibMod2Idx4Bs3 (ss : BitVec 2) : EncodedLength.Statement (.sibMod2Idx4Bs3 ss) := fun _ _ _ => rfl
theorem EncodedLength.sibMod2Idx4Bs4 (ss : BitVec 2) : EncodedLength.Statement (.sibMod2Idx4Bs4 ss) := fun _ _ _ => rfl
theorem EncodedLength.sibMod2Idx4Bs5B5 (ss : BitVec 2) : EncodedLength.Statement (.sibMod2Idx4Bs5B5 ss) := fun _ _ _ => rfl
theorem EncodedLength.sibMod2Idx4Bs5B13 (ss : BitVec 2) : EncodedLength.Statement (.sibMod2Idx4Bs5B13 ss) := fun _ _ _ => rfl
theorem EncodedLength.sibMod2Idx4Bs6 (ss : BitVec 2) : EncodedLength.Statement (.sibMod2Idx4Bs6 ss) := fun _ _ _ => rfl
theorem EncodedLength.sibMod2Idx4Bs7 (ss : BitVec 2) : EncodedLength.Statement (.sibMod2Idx4Bs7 ss) := fun _ _ _ => rfl
theorem EncodedLength.sibMod2Idx5Bs0 (ss : BitVec 2) : EncodedLength.Statement (.sibMod2Idx5Bs0 ss) := fun _ _ _ => rfl
theorem EncodedLength.sibMod2Idx5Bs1 (ss : BitVec 2) : EncodedLength.Statement (.sibMod2Idx5Bs1 ss) := fun _ _ _ => rfl
theorem EncodedLength.sibMod2Idx5Bs2 (ss : BitVec 2) : EncodedLength.Statement (.sibMod2Idx5Bs2 ss) := fun _ _ _ => rfl
theorem EncodedLength.sibMod2Idx5Bs3 (ss : BitVec 2) : EncodedLength.Statement (.sibMod2Idx5Bs3 ss) := fun _ _ _ => rfl
theorem EncodedLength.sibMod2Idx5Bs4 (ss : BitVec 2) : EncodedLength.Statement (.sibMod2Idx5Bs4 ss) := fun _ _ _ => rfl
theorem EncodedLength.sibMod2Idx5Bs5B5 (ss : BitVec 2) : EncodedLength.Statement (.sibMod2Idx5Bs5B5 ss) := fun _ _ _ => rfl
theorem EncodedLength.sibMod2Idx5Bs5B13 (ss : BitVec 2) : EncodedLength.Statement (.sibMod2Idx5Bs5B13 ss) := fun _ _ _ => rfl
theorem EncodedLength.sibMod2Idx5Bs6 (ss : BitVec 2) : EncodedLength.Statement (.sibMod2Idx5Bs6 ss) := fun _ _ _ => rfl
theorem EncodedLength.sibMod2Idx5Bs7 (ss : BitVec 2) : EncodedLength.Statement (.sibMod2Idx5Bs7 ss) := fun _ _ _ => rfl
theorem EncodedLength.sibMod2Idx6Bs0 (ss : BitVec 2) : EncodedLength.Statement (.sibMod2Idx6Bs0 ss) := fun _ _ _ => rfl
theorem EncodedLength.sibMod2Idx6Bs1 (ss : BitVec 2) : EncodedLength.Statement (.sibMod2Idx6Bs1 ss) := fun _ _ _ => rfl
theorem EncodedLength.sibMod2Idx6Bs2 (ss : BitVec 2) : EncodedLength.Statement (.sibMod2Idx6Bs2 ss) := fun _ _ _ => rfl
theorem EncodedLength.sibMod2Idx6Bs3 (ss : BitVec 2) : EncodedLength.Statement (.sibMod2Idx6Bs3 ss) := fun _ _ _ => rfl
theorem EncodedLength.sibMod2Idx6Bs4 (ss : BitVec 2) : EncodedLength.Statement (.sibMod2Idx6Bs4 ss) := fun _ _ _ => rfl
theorem EncodedLength.sibMod2Idx6Bs5B5 (ss : BitVec 2) : EncodedLength.Statement (.sibMod2Idx6Bs5B5 ss) := fun _ _ _ => rfl
theorem EncodedLength.sibMod2Idx6Bs5B13 (ss : BitVec 2) : EncodedLength.Statement (.sibMod2Idx6Bs5B13 ss) := fun _ _ _ => rfl
theorem EncodedLength.sibMod2Idx6Bs6 (ss : BitVec 2) : EncodedLength.Statement (.sibMod2Idx6Bs6 ss) := fun _ _ _ => rfl
theorem EncodedLength.sibMod2Idx6Bs7 (ss : BitVec 2) : EncodedLength.Statement (.sibMod2Idx6Bs7 ss) := fun _ _ _ => rfl
theorem EncodedLength.sibMod2Idx7Bs0 (ss : BitVec 2) : EncodedLength.Statement (.sibMod2Idx7Bs0 ss) := fun _ _ _ => rfl
theorem EncodedLength.sibMod2Idx7Bs1 (ss : BitVec 2) : EncodedLength.Statement (.sibMod2Idx7Bs1 ss) := fun _ _ _ => rfl
theorem EncodedLength.sibMod2Idx7Bs2 (ss : BitVec 2) : EncodedLength.Statement (.sibMod2Idx7Bs2 ss) := fun _ _ _ => rfl
theorem EncodedLength.sibMod2Idx7Bs3 (ss : BitVec 2) : EncodedLength.Statement (.sibMod2Idx7Bs3 ss) := fun _ _ _ => rfl
theorem EncodedLength.sibMod2Idx7Bs4 (ss : BitVec 2) : EncodedLength.Statement (.sibMod2Idx7Bs4 ss) := fun _ _ _ => rfl
theorem EncodedLength.sibMod2Idx7Bs5B5 (ss : BitVec 2) : EncodedLength.Statement (.sibMod2Idx7Bs5B5 ss) := fun _ _ _ => rfl
theorem EncodedLength.sibMod2Idx7Bs5B13 (ss : BitVec 2) : EncodedLength.Statement (.sibMod2Idx7Bs5B13 ss) := fun _ _ _ => rfl
theorem EncodedLength.sibMod2Idx7Bs6 (ss : BitVec 2) : EncodedLength.Statement (.sibMod2Idx7Bs6 ss) := fun _ _ _ => rfl
theorem EncodedLength.sibMod2Idx7Bs7 (ss : BitVec 2) : EncodedLength.Statement (.sibMod2Idx7Bs7 ss) := fun _ _ _ => rfl

end Sys2Proof.Laws
end

