-- ==== Sys2Proof/Laws/Ports.lean ====
section
/-! SUPPORT. The cursor port: a reply, or Truncated with a lost cursor; what a lost cursor leaves as it was. -/

namespace Sys2Proof.Machine

@[simp] theorem State.replyOr_some {α : Type} (s : State) (a : α) (reply : α → CurRsp × State) :
    s.replyOr (some a) reply = reply a := rfl

@[simp] theorem State.replyOr_none {α : Type} (s : State) (reply : α → CurRsp × State) :
    s.replyOr none reply = (.truncated, s.cursorLost) := rfl

/-- Where the replies themselves are not Truncated, the reply is Truncated exactly when there is no answer. -/
theorem State.replyOr_truncated {α : Type} {s : State} {answer : Option α} {reply : α → CurRsp × State}
    (h : ∀ a, (reply a).1 ≠ .truncated) : (s.replyOr answer reply).1 = .truncated ↔ answer = none := by
  cases answer with
  | none => simp
  | some a => simp [h a]

@[simp] theorem State.cursorLost_pos (s : State) : s.cursorLost.pos = s.drawPos := rfl
@[simp] theorem State.cursorLost_drawn (s : State) : s.cursorLost.drawn = s.drawn + 1 := rfl
@[simp] theorem State.cursorLost_len (s : State) : s.cursorLost.len = s.len := rfl
@[simp] theorem State.cursorLost_buf (s : State) : s.cursorLost.buf = s.buf := rfl
@[simp] theorem State.cursorLost_cfg (s : State) : s.cursorLost.cfg = s.cfg := rfl
@[simp] theorem State.cursorLost_stage (s : State) : s.cursorLost.stage = s.stage := rfl
@[simp] theorem State.cursorLost_out (s : State) : s.cursorLost.out = s.out := rfl

/-- A draw lies in 0..LEN. -/
theorem State.drawPos_le (s : State) : s.drawPos ≤ s.len :=
  Nat.lt_succ_iff.mp (Nat.mod_lt _ (Nat.succ_pos _))

/-- A Truncated reply leaves a lost cursor. -/
theorem State.cursorPort_truncated {s : State} {q : CurReq} (h : (s.cursorPort q).1 = .truncated) :
    (s.cursorPort q).2 = s.cursorLost := by
  cases q <;> simp only [State.cursorPort, State.replyOr] at h ⊢ <;> split <;> simp_all

end Sys2Proof.Machine
end

