-- ==== Sys2Proof/Laws/State.lean ====
section
/-! SUPPORT. One lemma per field per named update of State, true by rfl, so that no proof unfolds a record update. -/

namespace Sys2Proof.Machine

@[simp] theorem State.discardWork_cfg (s : State) : (s.discardWork).cfg = s.cfg := rfl
@[simp] theorem State.discardWork_buf (s : State) : (s.discardWork).buf = s.buf := rfl
@[simp] theorem State.discardWork_len (s : State) : (s.discardWork).len = s.len := rfl
@[simp] theorem State.discardWork_pos (s : State) : (s.discardWork).pos = s.pos := rfl
@[simp] theorem State.discardWork_pos0 (s : State) : (s.discardWork).pos0 = none := rfl
@[simp] theorem State.discardWork_pfx (s : State) : (s.discardWork).pfx = PrefixSet.empty := rfl
@[simp] theorem State.discardWork_rex (s : State) : (s.discardWork).rex = none := rfl
@[simp] theorem State.discardWork_opc (s : State) : (s.discardWork).opc = none := rfl
@[simp] theorem State.discardWork_desc (s : State) : (s.discardWork).desc = none := rfl
@[simp] theorem State.discardWork_modrm (s : State) : (s.discardWork).modrm = none := rfl
@[simp] theorem State.discardWork_sib (s : State) : (s.discardWork).sib = none := rfl
@[simp] theorem State.discardWork_disp (s : State) : (s.discardWork).disp = none := rfl
@[simp] theorem State.discardWork_slots (s : State) : (s.discardWork).slots = none := rfl
@[simp] theorem State.discardWork_stage (s : State) : (s.discardWork).stage = .idle := rfl
@[simp] theorem State.discardWork_out (s : State) : (s.discardWork).out = s.out := rfl
@[simp] theorem State.discardWork_host (s : State) : (s.discardWork).host = s.host := rfl
@[simp] theorem State.discardWork_drawn (s : State) : (s.discardWork).drawn = s.drawn := rfl

@[simp] theorem State.beginCall_cfg (s : State) : (s.beginCall).cfg = s.cfg := rfl
@[simp] theorem State.beginCall_buf (s : State) : (s.beginCall).buf = s.buf := rfl
@[simp] theorem State.beginCall_len (s : State) : (s.beginCall).len = s.len := rfl
@[simp] theorem State.beginCall_pos (s : State) : (s.beginCall).pos = s.pos := rfl
@[simp] theorem State.beginCall_pos0 (s : State) : (s.beginCall).pos0 = some s.pos := rfl
@[simp] theorem State.beginCall_pfx (s : State) : (s.beginCall).pfx = PrefixSet.empty := rfl
@[simp] theorem State.beginCall_rex (s : State) : (s.beginCall).rex = none := rfl
@[simp] theorem State.beginCall_opc (s : State) : (s.beginCall).opc = none := rfl
@[simp] theorem State.beginCall_desc (s : State) : (s.beginCall).desc = none := rfl
@[simp] theorem State.beginCall_modrm (s : State) : (s.beginCall).modrm = none := rfl
@[simp] theorem State.beginCall_sib (s : State) : (s.beginCall).sib = none := rfl
@[simp] theorem State.beginCall_disp (s : State) : (s.beginCall).disp = none := rfl
@[simp] theorem State.beginCall_slots (s : State) : (s.beginCall).slots = none := rfl
@[simp] theorem State.beginCall_stage (s : State) : (s.beginCall).stage = .scan := rfl
@[simp] theorem State.beginCall_out (s : State) : (s.beginCall).out = none := rfl
@[simp] theorem State.beginCall_host (s : State) : (s.beginCall).host = s.host := rfl
@[simp] theorem State.beginCall_drawn (s : State) : (s.beginCall).drawn = s.drawn := rfl

@[simp] theorem State.raiseError_cfg (s : State) (e : DecodeError) : (s.raiseError e).cfg = s.cfg := rfl
@[simp] theorem State.raiseError_buf (s : State) (e : DecodeError) : (s.raiseError e).buf = s.buf := rfl
@[simp] theorem State.raiseError_len (s : State) (e : DecodeError) : (s.raiseError e).len = s.len := rfl
@[simp] theorem State.raiseError_pos (s : State) (e : DecodeError) : (s.raiseError e).pos = s.drawPos := rfl
@[simp] theorem State.raiseError_pos0 (s : State) (e : DecodeError) : (s.raiseError e).pos0 = none := rfl
@[simp] theorem State.raiseError_pfx (s : State) (e : DecodeError) : (s.raiseError e).pfx = PrefixSet.empty := rfl
@[simp] theorem State.raiseError_rex (s : State) (e : DecodeError) : (s.raiseError e).rex = none := rfl
@[simp] theorem State.raiseError_opc (s : State) (e : DecodeError) : (s.raiseError e).opc = none := rfl
@[simp] theorem State.raiseError_desc (s : State) (e : DecodeError) : (s.raiseError e).desc = none := rfl
@[simp] theorem State.raiseError_modrm (s : State) (e : DecodeError) : (s.raiseError e).modrm = none := rfl
@[simp] theorem State.raiseError_sib (s : State) (e : DecodeError) : (s.raiseError e).sib = none := rfl
@[simp] theorem State.raiseError_disp (s : State) (e : DecodeError) : (s.raiseError e).disp = none := rfl
@[simp] theorem State.raiseError_slots (s : State) (e : DecodeError) : (s.raiseError e).slots = none := rfl
@[simp] theorem State.raiseError_stage (s : State) (e : DecodeError) : (s.raiseError e).stage = .idle := rfl
@[simp] theorem State.raiseError_out (s : State) (e : DecodeError) : (s.raiseError e).out = some { result := .error e, side := s.sideNow } := rfl
@[simp] theorem State.raiseError_host (s : State) (e : DecodeError) : (s.raiseError e).host = s.host := rfl
@[simp] theorem State.raiseError_drawn (s : State) (e : DecodeError) : (s.raiseError e).drawn = s.drawn + 1 := rfl

@[simp] theorem State.returnOk_cfg (s : State) (i : Instruction) : (s.returnOk i).cfg = s.cfg := rfl
@[simp] theorem State.returnOk_buf (s : State) (i : Instruction) : (s.returnOk i).buf = s.buf := rfl
@[simp] theorem State.returnOk_len (s : State) (i : Instruction) : (s.returnOk i).len = s.len := rfl
@[simp] theorem State.returnOk_pos (s : State) (i : Instruction) : (s.returnOk i).pos = s.pos := rfl
@[simp] theorem State.returnOk_pos0 (s : State) (i : Instruction) : (s.returnOk i).pos0 = none := rfl
@[simp] theorem State.returnOk_pfx (s : State) (i : Instruction) : (s.returnOk i).pfx = PrefixSet.empty := rfl
@[simp] theorem State.returnOk_rex (s : State) (i : Instruction) : (s.returnOk i).rex = none := rfl
@[simp] theorem State.returnOk_opc (s : State) (i : Instruction) : (s.returnOk i).opc = none := rfl
@[simp] theorem State.returnOk_desc (s : State) (i : Instruction) : (s.returnOk i).desc = none := rfl
@[simp] theorem State.returnOk_modrm (s : State) (i : Instruction) : (s.returnOk i).modrm = none := rfl
@[simp] theorem State.returnOk_sib (s : State) (i : Instruction) : (s.returnOk i).sib = none := rfl
@[simp] theorem State.returnOk_disp (s : State) (i : Instruction) : (s.returnOk i).disp = none := rfl
@[simp] theorem State.returnOk_slots (s : State) (i : Instruction) : (s.returnOk i).slots = none := rfl
@[simp] theorem State.returnOk_stage (s : State) (i : Instruction) : (s.returnOk i).stage = .idle := rfl
@[simp] theorem State.returnOk_out (s : State) (i : Instruction) : (s.returnOk i).out = some { result := .ok i, side := s.sideNow } := rfl
@[simp] theorem State.returnOk_host (s : State) (i : Instruction) : (s.returnOk i).host = s.host := rfl
@[simp] theorem State.returnOk_drawn (s : State) (i : Instruction) : (s.returnOk i).drawn = s.drawn := rfl

@[simp] theorem State.endScan_cfg (s : State) : (s.endScan).cfg = s.cfg := rfl
@[simp] theorem State.endScan_buf (s : State) : (s.endScan).buf = s.buf := rfl
@[simp] theorem State.endScan_len (s : State) : (s.endScan).len = s.len := rfl
@[simp] theorem State.endScan_pos (s : State) : (s.endScan).pos = s.pos := rfl
@[simp] theorem State.endScan_pos0 (s : State) : (s.endScan).pos0 = s.pos0 := rfl
@[simp] theorem State.endScan_pfx (s : State) : (s.endScan).pfx = s.pfx := rfl
@[simp] theorem State.endScan_rex (s : State) : (s.endScan).rex = s.rex := rfl
@[simp] theorem State.endScan_opc (s : State) : (s.endScan).opc = s.opc := rfl
@[simp] theorem State.endScan_desc (s : State) : (s.endScan).desc = s.desc := rfl
@[simp] theorem State.endScan_modrm (s : State) : (s.endScan).modrm = s.modrm := rfl
@[simp] theorem State.endScan_sib (s : State) : (s.endScan).sib = s.sib := rfl
@[simp] theorem State.endScan_disp (s : State) : (s.endScan).disp = s.disp := rfl
@[simp] theorem State.endScan_slots (s : State) : (s.endScan).slots = s.slots := rfl
@[simp] theorem State.endScan_stage (s : State) : (s.endScan).stage = .opcode := rfl
@[simp] theorem State.endScan_out (s : State) : (s.endScan).out = s.out := rfl
@[simp] theorem State.endScan_host (s : State) : (s.endScan).host = s.host := rfl
@[simp] theorem State.endScan_drawn (s : State) : (s.endScan).drawn = s.drawn := rfl

@[simp] theorem State.setSlot_cfg (s : State) (k : Nat) (v : Operand) : (s.setSlot k v).cfg = s.cfg := rfl
@[simp] theorem State.setSlot_buf (s : State) (k : Nat) (v : Operand) : (s.setSlot k v).buf = s.buf := rfl
@[simp] theorem State.setSlot_len (s : State) (k : Nat) (v : Operand) : (s.setSlot k v).len = s.len := rfl
@[simp] theorem State.setSlot_pos (s : State) (k : Nat) (v : Operand) : (s.setSlot k v).pos = s.pos := rfl
@[simp] theorem State.setSlot_pos0 (s : State) (k : Nat) (v : Operand) : (s.setSlot k v).pos0 = s.pos0 := rfl
@[simp] theorem State.setSlot_pfx (s : State) (k : Nat) (v : Operand) : (s.setSlot k v).pfx = s.pfx := rfl
@[simp] theorem State.setSlot_rex (s : State) (k : Nat) (v : Operand) : (s.setSlot k v).rex = s.rex := rfl
@[simp] theorem State.setSlot_opc (s : State) (k : Nat) (v : Operand) : (s.setSlot k v).opc = s.opc := rfl
@[simp] theorem State.setSlot_desc (s : State) (k : Nat) (v : Operand) : (s.setSlot k v).desc = s.desc := rfl
@[simp] theorem State.setSlot_modrm (s : State) (k : Nat) (v : Operand) : (s.setSlot k v).modrm = s.modrm := rfl
@[simp] theorem State.setSlot_sib (s : State) (k : Nat) (v : Operand) : (s.setSlot k v).sib = s.sib := rfl
@[simp] theorem State.setSlot_disp (s : State) (k : Nat) (v : Operand) : (s.setSlot k v).disp = s.disp := rfl
@[simp] theorem State.setSlot_slots (s : State) (k : Nat) (v : Operand) : (s.setSlot k v).slots = s.slots.map fun l => l.set k (some v) := rfl
@[simp] theorem State.setSlot_stage (s : State) (k : Nat) (v : Operand) : (s.setSlot k v).stage = s.stage := rfl
@[simp] theorem State.setSlot_out (s : State) (k : Nat) (v : Operand) : (s.setSlot k v).out = s.out := rfl
@[simp] theorem State.setSlot_host (s : State) (k : Nat) (v : Operand) : (s.setSlot k v).host = s.host := rfl
@[simp] theorem State.setSlot_drawn (s : State) (k : Nat) (v : Operand) : (s.setSlot k v).drawn = s.drawn := rfl

@[simp] theorem State.resetBlock_cfg (s : State) : (s.resetBlock).cfg = s.cfg := rfl
@[simp] theorem State.resetBlock_buf (s : State) : (s.resetBlock).buf = s.buf := rfl
@[simp] theorem State.resetBlock_len (s : State) : (s.resetBlock).len = s.len := rfl
@[simp] theorem State.resetBlock_pos (s : State) : (s.resetBlock).pos = s.pos := rfl
@[simp] theorem State.resetBlock_pos0 (s : State) : (s.resetBlock).pos0 = none := rfl
@[simp] theorem State.resetBlock_pfx (s : State) : (s.resetBlock).pfx = PrefixSet.empty := rfl
@[simp] theorem State.resetBlock_rex (s : State) : (s.resetBlock).rex = none := rfl
@[simp] theorem State.resetBlock_opc (s : State) : (s.resetBlock).opc = none := rfl
@[simp] theorem State.resetBlock_desc (s : State) : (s.resetBlock).desc = none := rfl
@[simp] theorem State.resetBlock_modrm (s : State) : (s.resetBlock).modrm = none := rfl
@[simp] theorem State.resetBlock_sib (s : State) : (s.resetBlock).sib = none := rfl
@[simp] theorem State.resetBlock_disp (s : State) : (s.resetBlock).disp = none := rfl
@[simp] theorem State.resetBlock_slots (s : State) : (s.resetBlock).slots = none := rfl
@[simp] theorem State.resetBlock_stage (s : State) : (s.resetBlock).stage = .idle := rfl
@[simp] theorem State.resetBlock_out (s : State) : (s.resetBlock).out = none := rfl
@[simp] theorem State.resetBlock_host (s : State) : (s.resetBlock).host = s.host := rfl
@[simp] theorem State.resetBlock_drawn (s : State) : (s.resetBlock).drawn = s.drawn := rfl

@[simp] theorem State.lostCall_cfg (s : State) : (s.lostCall).cfg = s.cfg := rfl
@[simp] theorem State.lostCall_buf (s : State) : (s.lostCall).buf = s.buf := rfl
@[simp] theorem State.lostCall_len (s : State) : (s.lostCall).len = s.len := rfl
@[simp] theorem State.lostCall_pos (s : State) : (s.lostCall).pos = s.drawPos := rfl
@[simp] theorem State.lostCall_pos0 (s : State) : (s.lostCall).pos0 = none := rfl
@[simp] theorem State.lostCall_pfx (s : State) : (s.lostCall).pfx = PrefixSet.empty := rfl
@[simp] theorem State.lostCall_rex (s : State) : (s.lostCall).rex = none := rfl
@[simp] theorem State.lostCall_opc (s : State) : (s.lostCall).opc = none := rfl
@[simp] theorem State.lostCall_desc (s : State) : (s.lostCall).desc = none := rfl
@[simp] theorem State.lostCall_modrm (s : State) : (s.lostCall).modrm = none := rfl
@[simp] theorem State.lostCall_sib (s : State) : (s.lostCall).sib = none := rfl
@[simp] theorem State.lostCall_disp (s : State) : (s.lostCall).disp = none := rfl
@[simp] theorem State.lostCall_slots (s : State) : (s.lostCall).slots = none := rfl
@[simp] theorem State.lostCall_stage (s : State) : (s.lostCall).stage = .idle := rfl
@[simp] theorem State.lostCall_out (s : State) : (s.lostCall).out = none := rfl
@[simp] theorem State.lostCall_host (s : State) : (s.lostCall).host = s.host := rfl
@[simp] theorem State.lostCall_drawn (s : State) : (s.lostCall).drawn = s.drawn + 1 := rfl

end Sys2Proof.Machine
end

