-- ==== Sys2Proof/Tests/Slice0.lean ====
section
/-! SUPPORT. The model's own tests. Expected values come from the spec: the vectors of 95_test_vectors.md (named after
their rows), or bytes written out from the layouts of 30_encoding.md. The last part shows, for each obligation with
hypotheses, a concrete state and operands that meet all of them together. -/

namespace Sys2Proof.Tests

open Sys2Proof.Machine

/-! ## Small states -/

/-- Between calls, the cursor at the start of the given bytes, default parameters. -/
def onBytes (bytes : List Byte) : State :=
  { State.reset with buf := Memory.ofBytes bytes, len := bytes.length }

/-- A call just started on the given bytes. -/
def begun (bytes : List Byte) : State := (onBytes bytes).beginCall

/-- A call at a stage after the opcode, its descriptor resolved and its slots empty. -/
def inCall (st : Stage) (bytes : List Byte) (d : OpcodeDescriptor) (rex : Option RexFlags) : State :=
  { onBytes bytes with
    pos0 := some 0, rex := rex, opc := some (.one 0x89#8), desc := some d
    slots := some (List.replicate d.operands.length none), stage := st }

/-- REX with the given bits. -/
def rexOf (w r x b : Bool) : Option RexFlags := some { w := w, r := r, x := x, b := b }

/-- What a call that returned OK shows: bytes consumed from position 0, and the operands. -/
def okOf : Result → Option (Nat × List Operand)
  | .next s =>
    match s.result with
    | some (.ok i) => some (s.pos, i.operands)
    | _ => none
  | _ => none

/-- The error of a call that failed. -/
def errOf : Result → Option DecodeError
  | .next s =>
    match s.result with
    | some (.error e) => some e
    | _ => none
  | _ => none

/-- The flags of PFX on the side port of a finished call, in the order of PfxFlag. -/
def flagsOf : Result → Option (List Bool)
  | .next s => s.sidePort.map fun p =>
      [p.pfx.lock, p.pfx.cs, p.pfx.ss, p.pfx.ds, p.pfx.es, p.pfx.fs, p.pfx.gs, p.pfx.repne, p.pfx.rep,
        p.pfx.hintNotTaken, p.pfx.hintTaken, p.pfx.opsize, p.pfx.addrsize]
  | _ => none

/-- The slots a step leaves. -/
def slotsOf : Result → Option (List (Option Operand))
  | .next s => s.slots
  | _ => none

def g64 (i : BitVec 4) : Designator := { cls := .gpr, width := some .w64, idx := i }

def g32 (i : BitVec 4) : Designator := { cls := .gpr, width := some .w32, idx := i }

def mm (i : BitVec 4) : Designator := { cls := .mmx, width := none, idx := i }

def xmm (i : BitVec 4) : Designator := { cls := .xmm, width := none, idx := i }

/-! ## WellFormed refuses -/

/-- A flag whose entries are all shadowed: `2E` is cs (40_prefix_scanner.md R141). -/
theorem test_wf_shadowed_hint : Instr.wellFormed Params.default .pfxHintNotTaken = false := by decide

theorem test_wf_esc_is_no_one_byte_opcode : Instr.wellFormed Params.default (.opcOneByte 0x0F#8) = false := by decide

theorem test_wf_c3_has_its_own_row : Instr.wellFormed Params.default (.opcOneByte 0xC3#8) = false := by decide

theorem test_wf_89_has_its_own_row : Instr.wellFormed Params.default (.opcOneByte 0x89#8) = false := by decide

theorem test_wf_cell_is_not_esc : Instr.wellFormed { Params.default with esc := 0xC3#8 } .t1C3 = false := by decide

theorem test_wf_cell_is_not_esc_89 : Instr.wellFormed { Params.default with esc := 0x89#8 } .t189 = false := by decide

theorem test_wf_selector_is_no_two_byte_opcode :
    Instr.wellFormed Params.default (.escTwoByte 0x38#8) = false ∧
      Instr.wellFormed Params.default (.escTwoByte 0x3A#8) = false := by decide

theorem test_wf_equal_selectors_hide_table_b :
    Instr.wellFormed { Params.default with selB := 0x38#8 } (.escThreeByteB 0#8) = false := by decide

/-- Under another PREFIX_LIST the hint row is reachable (40_prefix_scanner.md R153). -/
theorem test_wf_hint_under_another_list :
    Instr.wellFormed { Params.default with prefixList := [(0x2E#8, .hintNotTaken)] } .pfxHintNotTaken = true := by decide

/-- W1 to W5 (10_state.md R41): an index twice, a role without ModRM, no `rm`, a FIXED operand in a role, no literal. -/
theorem test_descriptor_wf_refuses :
    OpcodeDescriptor.wf (fixedDesc "x" [fixedOne 0 "a", fixedOne 0 "b"]) none = false ∧
      OpcodeDescriptor.wf (fixedDesc "x" [encodedOp .gpr 0]) none = false ∧
      OpcodeDescriptor.wf { movStoreDesc with rm := none } none = false ∧
      OpcodeDescriptor.wf (modrmDesc "x" [fixedOne 0 "a", encodedOp .gpr 1] 1 0) none = false ∧
      OpcodeDescriptor.wf (fixedDesc "x" [{ fixedOne 0 "a" with alt0 := none }]) none = false ∧
      OpcodeDescriptor.wf movStoreDesc (some 1) = false := by decide

/-! ## Words decode to the rows they stand for -/

def decodedAt (st : Stage) (x b m : Bool) (bytes : List Byte) : Option Instr :=
  match decode Params.default { stage := st, rexX := x, rexB := b, memOnly := m } bytes with
  | .ok i => some i
  | .error _ => none

theorem test_decode_prefix_bytes :
    [0xF0#8, 0x2E#8, 0x36#8, 0x3E#8, 0x26#8, 0x64#8, 0x65#8, 0xF2#8, 0xF3#8, 0x66#8, 0x67#8].map
        (fun v => decodedAt .scan false false false [v]) =
      [some .pfxLock, some .pfxCs, some .pfxSs, some .pfxDs, some .pfxEs, some .pfxFs, some .pfxGs, some .pfxRepne,
        some .pfxRep, some .pfxOpsize, some .pfxAddrsize] := by decide

/-- `0x48` is {w:1, r:0, x:0, b:0} and `0x41` is {w:0, r:0, x:0, b:1} (95 S1, S2). -/
theorem test_decode_rex :
    decodedAt .scan false false false [0b01001000#8] = some (.rex true false false false) ∧
      decodedAt .scan false false false [0b01000001#8] = some (.rex false false false true) := by decide

theorem test_decode_opcodes :
    decodedAt .scan false false false [0xC3#8] = some .t1C3 ∧
      decodedAt .opcode false false false [0x89#8] = some .t189 ∧
      decodedAt .opcode false false false [0x41#8] = some (.opcOneByte 0x41#8) ∧
      decodedAt .scan false false false [0x0F#8, 0x05#8] = some (.escTwoByte 0x05#8) ∧
      decodedAt .scan false false false [0x0F#8, 0x38#8, 0x00#8] = some (.escThreeByteA 0#8) ∧
      decodedAt .scan false false false [0x0F#8, 0x3A#8, 0x0F#8] = some (.escThreeByteB 0x0F#8) ∧
      decodedAt .scan false false false [0x0F#8, 0x38#8] = none := by decide

/-- ModRM: mod 7:6, reg 5:3, rm 2:0 (30_encoding.md R107). -/
theorem test_decode_modrm_fields :
    decodedAt .modrm false false false [0b01101011#8] = some (.modrmReg 1#2 5#3 3#3) ∧
      decodedAt .rm false false false [0b01101011#8] = some .modrmMemMod1Rm3 ∧
      decodedAt .rm true false false [0b01101011#8] = some .modrmMemMod1Rm3Rexx ∧
      decodedAt .rm false false false [0b11101011#8] = some (.modrmRegdirect 3#3) ∧
      decodedAt .rm false false true [0b11101011#8] = some (.modrmRegdirectInvalid 3#3) ∧
      decodedAt .rm true false true [0b10101100#8] = some .modrmSibFollowsMod2 := by decide

/-- SIB: ss 7:6, idx 5:3, bs 2:0 (30_encoding.md R108); base 5 is base 13 with REX.b (44_sib.md R225). -/
theorem test_decode_sib_fields :
    decodedAt .sib false false false [0b00000100#8, 0b10001110#8] = some (.sibMod0Idx1Bs6 2#2) ∧
      decodedAt .sib false false false [0b01000100#8, 0b00010101#8] = some (.sibMod1Idx2Bs5B5 0#2) ∧
      decodedAt .sib false true false [0b10000100#8, 0b11100101#8] = some (.sibMod2Idx4Bs5B13 3#2) := by decide

/-- The high byte of a two-byte word comes first (30_encoding.md R120). -/
theorem test_table_words :
    decodeTableWord 8 0xF0 = some .pfxLock ∧ decodeTableWord 16 0x0F05 = some (.escTwoByte 0x05#8) ∧
      decodeTableWord 16 0x44D8 = some (.sibMod1Idx3Bs0 3#2) := by decide

theorem test_encode_words :
    encode Params.default (.rex true false false true) = [0x49#8] ∧
      encode Params.default (.escThreeByteB 0x0F#8) = [0x0F#8, 0x3A#8, 0x0F#8] ∧
      encodeWith 3#3 Params.default (.modrmRegdirect 0#3) = [0xD8#8] ∧
      encode Params.default (.sibMod0Idx3Bs0 3#2) = [0x04#8, 0xD8#8] := by decide

/-! ## Every row's word

The words are the `match` columns of spec/opcode_table.json, with `ss` 2 in the SIB rows. -/

/-- The hint rows under a PREFIX_LIST that has them (40_prefix_scanner.md R153). -/
theorem test_words_hints :
    decode { Params.default with prefixList := [(0x2E#8, .hintNotTaken), (0x3E#8, .hintTaken)] } ⟨.scan, false, false, false⟩
        [0x2E#8] = .ok .pfxHintNotTaken ∧
      decode { Params.default with prefixList := [(0x2E#8, .hintNotTaken), (0x3E#8, .hintTaken)] }
        ⟨.scan, false, false, false⟩ [0x3E#8] = .ok .pfxHintTaken :=
  ⟨rfl, rfl⟩

theorem test_words_mem_mod0_rexx :
    [0x00#8, 0x01#8, 0x02#8, 0x03#8, 0x05#8, 0x06#8, 0x07#8].map (fun v => decodedAt .rm true false false [v]) =
      [some .modrmMemMod0Rm0Rexx, some .modrmMemMod0Rm1Rexx, some .modrmMemMod0Rm2Rexx, some .modrmMemMod0Rm3Rexx,
       some .modrmMemMod0Rm5Rexx, some .modrmMemMod0Rm6Rexx, some .modrmMemMod0Rm7Rexx] := by decide

theorem test_words_mem_mod1_rexx :
    [0x40#8, 0x41#8, 0x42#8, 0x43#8, 0x45#8, 0x46#8, 0x47#8].map (fun v => decodedAt .rm true false false [v]) =
      [some .modrmMemMod1Rm0Rexx, some .modrmMemMod1Rm1Rexx, some .modrmMemMod1Rm2Rexx, some .modrmMemMod1Rm3Rexx,
       some .modrmMemMod1Rm5Rexx, some .modrmMemMod1Rm6Rexx, some .modrmMemMod1Rm7Rexx] := by decide

theorem test_words_mem_mod2_rexx :
    [0x80#8, 0x81#8, 0x82#8, 0x83#8, 0x85#8, 0x86#8, 0x87#8].map (fun v => decodedAt .rm true false false [v]) =
      [some .modrmMemMod2Rm0Rexx, some .modrmMemMod2Rm1Rexx, some .modrmMemMod2Rm2Rexx, some .modrmMemMod2Rm3Rexx,
       some .modrmMemMod2Rm5Rexx, some .modrmMemMod2Rm6Rexx, some .modrmMemMod2Rm7Rexx] := by decide

theorem test_words_mem_mod0 :
    [0x00#8, 0x01#8, 0x02#8, 0x03#8, 0x05#8, 0x06#8, 0x07#8].map (fun v => decodedAt .rm false false false [v]) =
      [some .modrmMemMod0Rm0, some .modrmMemMod0Rm1, some .modrmMemMod0Rm2, some .modrmMemMod0Rm3,
       some .modrmMemMod0Rm5, some .modrmMemMod0Rm6, some .modrmMemMod0Rm7] := by decide

theorem test_words_mem_mod1 :
    [0x40#8, 0x41#8, 0x42#8, 0x43#8, 0x45#8, 0x46#8, 0x47#8].map (fun v => decodedAt .rm false false false [v]) =
      [some .modrmMemMod1Rm0, some .modrmMemMod1Rm1, some .modrmMemMod1Rm2, some .modrmMemMod1Rm3,
       some .modrmMemMod1Rm5, some .modrmMemMod1Rm6, some .modrmMemMod1Rm7] := by decide

theorem test_words_mem_mod2 :
    [0x80#8, 0x81#8, 0x82#8, 0x83#8, 0x85#8, 0x86#8, 0x87#8].map (fun v => decodedAt .rm false false false [v]) =
      [some .modrmMemMod2Rm0, some .modrmMemMod2Rm1, some .modrmMemMod2Rm2, some .modrmMemMod2Rm3,
       some .modrmMemMod2Rm5, some .modrmMemMod2Rm6, some .modrmMemMod2Rm7] := by decide

theorem test_words_sib_follows :
    [0x04#8, 0x44#8, 0x84#8].map (fun v => decodedAt .rm false false false [v]) =
      [some .modrmSibFollowsMod0, some .modrmSibFollowsMod1, some .modrmSibFollowsMod2] := by decide

theorem test_words_sib_mod0_idx0 :
    [0x80#8, 0x81#8, 0x82#8, 0x83#8, 0x84#8, 0x85#8, 0x86#8, 0x87#8].map
        (fun x => decodedAt .sib false false false [0x04#8, x]) =
      [some (.sibMod0Idx0Bs0 2#2), some (.sibMod0Idx0Bs1 2#2), some (.sibMod0Idx0Bs2 2#2),
       some (.sibMod0Idx0Bs3 2#2), some (.sibMod0Idx0Bs4 2#2), some (.sibMod0Idx0Bs5B5 2#2),
       some (.sibMod0Idx0Bs6 2#2), some (.sibMod0Idx0Bs7 2#2)] ∧
    decodedAt .sib false true false [0x04#8, 0x85#8] = some (.sibMod0Idx0Bs5B13 2#2) := by decide

theorem test_words_sib_mod0_idx1 :
    [0x88#8, 0x89#8, 0x8A#8, 0x8B#8, 0x8C#8, 0x8D#8, 0x8E#8, 0x8F#8].map
        (fun x => decodedAt .sib false false false [0x04#8, x]) =
      [some (.sibMod0Idx1Bs0 2#2), some (.sibMod0Idx1Bs1 2#2), some (.sibMod0Idx1Bs2 2#2),
       some (.sibMod0Idx1Bs3 2#2), some (.sibMod0Idx1Bs4 2#2), some (.sibMod0Idx1Bs5B5 2#2),
       some (.sibMod0Idx1Bs6 2#2), some (.sibMod0Idx1Bs7 2#2)] ∧
    decodedAt .sib false true false [0x04#8, 0x8D#8] = some (.sibMod0Idx1Bs5B13 2#2) := by decide

theorem test_words_sib_mod0_idx2 :
    [0x90#8, 0x91#8, 0x92#8, 0x93#8, 0x94#8, 0x95#8, 0x96#8, 0x97#8].map
        (fun x => decodedAt .sib false false false [0x04#8, x]) =
      [some (.sibMod0Idx2Bs0 2#2), some (.sibMod0Idx2Bs1 2#2), some (.sibMod0Idx2Bs2 2#2),
       some (.sibMod0Idx2Bs3 2#2), some (.sibMod0Idx2Bs4 2#2), some (.sibMod0Idx2Bs5B5 2#2),
       some (.sibMod0Idx2Bs6 2#2), some (.sibMod0Idx2Bs7 2#2)] ∧
    decodedAt .sib false true false [0x04#8, 0x95#8] = some (.sibMod0Idx2Bs5B13 2#2) := by decide

theorem test_words_sib_mod0_idx3 :
    [0x98#8, 0x99#8, 0x9A#8, 0x9B#8, 0x9C#8, 0x9D#8, 0x9E#8, 0x9F#8].map
        (fun x => decodedAt .sib false false false [0x04#8, x]) =
      [some (.sibMod0Idx3Bs0 2#2), some (.sibMod0Idx3Bs1 2#2), some (.sibMod0Idx3Bs2 2#2),
       some (.sibMod0Idx3Bs3 2#2), some (.sibMod0Idx3Bs4 2#2), some (.sibMod0Idx3Bs5B5 2#2),
       some (.sibMod0Idx3Bs6 2#2), some (.sibMod0Idx3Bs7 2#2)] ∧
    decodedAt .sib false true false [0x04#8, 0x9D#8] = some (.sibMod0Idx3Bs5B13 2#2) := by decide

theorem test_words_sib_mod0_idx4 :
    [0xA0#8, 0xA1#8, 0xA2#8, 0xA3#8, 0xA4#8, 0xA5#8, 0xA6#8, 0xA7#8].map
        (fun x => decodedAt .sib false false false [0x04#8, x]) =
      [some (.sibMod0Idx4Bs0 2#2), some (.sibMod0Idx4Bs1 2#2), some (.sibMod0Idx4Bs2 2#2),
       some (.sibMod0Idx4Bs3 2#2), some (.sibMod0Idx4Bs4 2#2), some (.sibMod0Idx4Bs5B5 2#2),
       some (.sibMod0Idx4Bs6 2#2), some (.sibMod0Idx4Bs7 2#2)] ∧
    decodedAt .sib false true false [0x04#8, 0xA5#8] = some (.sibMod0Idx4Bs5B13 2#2) := by decide

theorem test_words_sib_mod0_idx5 :
    [0xA8#8, 0xA9#8, 0xAA#8, 0xAB#8, 0xAC#8, 0xAD#8, 0xAE#8, 0xAF#8].map
        (fun x => decodedAt .sib false false false [0x04#8, x]) =
      [some (.sibMod0Idx5Bs0 2#2), some (.sibMod0Idx5Bs1 2#2), some (.sibMod0Idx5Bs2 2#2),
       some (.sibMod0Idx5Bs3 2#2), some (.sibMod0Idx5Bs4 2#2), some (.sibMod0Idx5Bs5B5 2#2),
       some (.sibMod0Idx5Bs6 2#2), some (.sibMod0Idx5Bs7 2#2)] ∧
    decodedAt .sib false true false [0x04#8, 0xAD#8] = some (.sibMod0Idx5Bs5B13 2#2) := by decide

theorem test_words_sib_mod0_idx6 :
    [0xB0#8, 0xB1#8, 0xB2#8, 0xB3#8, 0xB4#8, 0xB5#8, 0xB6#8, 0xB7#8].map
        (fun x => decodedAt .sib false false false [0x04#8, x]) =
      [some (.sibMod0Idx6Bs0 2#2), some (.sibMod0Idx6Bs1 2#2), some (.sibMod0Idx6Bs2 2#2),
       some (.sibMod0Idx6Bs3 2#2), some (.sibMod0Idx6Bs4 2#2), some (.sibMod0Idx6Bs5B5 2#2),
       some (.sibMod0Idx6Bs6 2#2), some (.sibMod0Idx6Bs7 2#2)] ∧
    decodedAt .sib false true false [0x04#8, 0xB5#8] = some (.sibMod0Idx6Bs5B13 2#2) := by decide

theorem test_words_sib_mod0_idx7 :
    [0xB8#8, 0xB9#8, 0xBA#8, 0xBB#8, 0xBC#8, 0xBD#8, 0xBE#8, 0xBF#8].map
        (fun x => decodedAt .sib false false false [0x04#8, x]) =
      [some (.sibMod0Idx7Bs0 2#2), some (.sibMod0Idx7Bs1 2#2), some (.sibMod0Idx7Bs2 2#2),
       some (.sibMod0Idx7Bs3 2#2), some (.sibMod0Idx7Bs4 2#2), some (.sibMod0Idx7Bs5B5 2#2),
       some (.sibMod0Idx7Bs6 2#2), some (.sibMod0Idx7Bs7 2#2)] ∧
    decodedAt .sib false true false [0x04#8, 0xBD#8] = some (.sibMod0Idx7Bs5B13 2#2) := by decide

theorem test_words_sib_mod1_idx0 :
    [0x80#8, 0x81#8, 0x82#8, 0x83#8, 0x84#8, 0x85#8, 0x86#8, 0x87#8].map
        (fun x => decodedAt .sib false false false [0x44#8, x]) =
      [some (.sibMod1Idx0Bs0 2#2), some (.sibMod1Idx0Bs1 2#2), some (.sibMod1Idx0Bs2 2#2),
       some (.sibMod1Idx0Bs3 2#2), some (.sibMod1Idx0Bs4 2#2), some (.sibMod1Idx0Bs5B5 2#2),
       some (.sibMod1Idx0Bs6 2#2), some (.sibMod1Idx0Bs7 2#2)] ∧
    decodedAt .sib false true false [0x44#8, 0x85#8] = some (.sibMod1Idx0Bs5B13 2#2) := by decide

theorem test_words_sib_mod1_idx1 :
    [0x88#8, 0x89#8, 0x8A#8, 0x8B#8, 0x8C#8, 0x8D#8, 0x8E#8, 0x8F#8].map
        (fun x => decodedAt .sib false false false [0x44#8, x]) =
      [some (.sibMod1Idx1Bs0 2#2), some (.sibMod1Idx1Bs1 2#2), some (.sibMod1Idx1Bs2 2#2),
       some (.sibMod1Idx1Bs3 2#2), some (.sibMod1Idx1Bs4 2#2), some (.sibMod1Idx1Bs5B5 2#2),
       some (.sibMod1Idx1Bs6 2#2), some (.sibMod1Idx1Bs7 2#2)] ∧
    decodedAt .sib false true false [0x44#8, 0x8D#8] = some (.sibMod1Idx1Bs5B13 2#2) := by decide

theorem test_words_sib_mod1_idx2 :
    [0x90#8, 0x91#8, 0x92#8, 0x93#8, 0x94#8, 0x95#8, 0x96#8, 0x97#8].map
        (fun x => decodedAt .sib false false false [0x44#8, x]) =
      [some (.sibMod1Idx2Bs0 2#2), some (.sibMod1Idx2Bs1 2#2), some (.sibMod1Idx2Bs2 2#2),
       some (.sibMod1Idx2Bs3 2#2), some (.sibMod1Idx2Bs4 2#2), some (.sibMod1Idx2Bs5B5 2#2),
       some (.sibMod1Idx2Bs6 2#2), some (.sibMod1Idx2Bs7 2#2)] ∧
    decodedAt .sib false true false [0x44#8, 0x95#8] = some (.sibMod1Idx2Bs5B13 2#2) := by decide

theorem test_words_sib_mod1_idx3 :
    [0x98#8, 0x99#8, 0x9A#8, 0x9B#8, 0x9C#8, 0x9D#8, 0x9E#8, 0x9F#8].map
        (fun x => decodedAt .sib false false false [0x44#8, x]) =
      [some (.sibMod1Idx3Bs0 2#2), some (.sibMod1Idx3Bs1 2#2), some (.sibMod1Idx3Bs2 2#2),
       some (.sibMod1Idx3Bs3 2#2), some (.sibMod1Idx3Bs4 2#2), some (.sibMod1Idx3Bs5B5 2#2),
       some (.sibMod1Idx3Bs6 2#2), some (.sibMod1Idx3Bs7 2#2)] ∧
    decodedAt .sib false true false [0x44#8, 0x9D#8] = some (.sibMod1Idx3Bs5B13 2#2) := by decide

theorem test_words_sib_mod1_idx4 :
    [0xA0#8, 0xA1#8, 0xA2#8, 0xA3#8, 0xA4#8, 0xA5#8, 0xA6#8, 0xA7#8].map
        (fun x => decodedAt .sib false false false [0x44#8, x]) =
      [some (.sibMod1Idx4Bs0 2#2), some (.sibMod1Idx4Bs1 2#2), some (.sibMod1Idx4Bs2 2#2),
       some (.sibMod1Idx4Bs3 2#2), some (.sibMod1Idx4Bs4 2#2), some (.sibMod1Idx4Bs5B5 2#2),
       some (.sibMod1Idx4Bs6 2#2), some (.sibMod1Idx4Bs7 2#2)] ∧
    decodedAt .sib false true false [0x44#8, 0xA5#8] = some (.sibMod1Idx4Bs5B13 2#2) := by decide

theorem test_words_sib_mod1_idx5 :
    [0xA8#8, 0xA9#8, 0xAA#8, 0xAB#8, 0xAC#8, 0xAD#8, 0xAE#8, 0xAF#8].map
        (fun x => decodedAt .sib false false false [0x44#8, x]) =
      [some (.sibMod1Idx5Bs0 2#2), some (.sibMod1Idx5Bs1 2#2), some (.sibMod1Idx5Bs2 2#2),
       some (.sibMod1Idx5Bs3 2#2), some (.sibMod1Idx5Bs4 2#2), some (.sibMod1Idx5Bs5B5 2#2),
       some (.sibMod1Idx5Bs6 2#2), some (.sibMod1Idx5Bs7 2#2)] ∧
    decodedAt .sib false true false [0x44#8, 0xAD#8] = some (.sibMod1Idx5Bs5B13 2#2) := by decide

theorem test_words_sib_mod1_idx6 :
    [0xB0#8, 0xB1#8, 0xB2#8, 0xB3#8, 0xB4#8, 0xB5#8, 0xB6#8, 0xB7#8].map
        (fun x => decodedAt .sib false false false [0x44#8, x]) =
      [some (.sibMod1Idx6Bs0 2#2), some (.sibMod1Idx6Bs1 2#2), some (.sibMod1Idx6Bs2 2#2),
       some (.sibMod1Idx6Bs3 2#2), some (.sibMod1Idx6Bs4 2#2), some (.sibMod1Idx6Bs5B5 2#2),
       some (.sibMod1Idx6Bs6 2#2), some (.sibMod1Idx6Bs7 2#2)] ∧
    decodedAt .sib false true false [0x44#8, 0xB5#8] = some (.sibMod1Idx6Bs5B13 2#2) := by decide

theorem test_words_sib_mod1_idx7 :
    [0xB8#8, 0xB9#8, 0xBA#8, 0xBB#8, 0xBC#8, 0xBD#8, 0xBE#8, 0xBF#8].map
        (fun x => decodedAt .sib false false false [0x44#8, x]) =
      [some (.sibMod1Idx7Bs0 2#2), some (.sibMod1Idx7Bs1 2#2), some (.sibMod1Idx7Bs2 2#2),
       some (.sibMod1Idx7Bs3 2#2), some (.sibMod1Idx7Bs4 2#2), some (.sibMod1Idx7Bs5B5 2#2),
       some (.sibMod1Idx7Bs6 2#2), some (.sibMod1Idx7Bs7 2#2)] ∧
    decodedAt .sib false true false [0x44#8, 0xBD#8] = some (.sibMod1Idx7Bs5B13 2#2) := by decide

theorem test_words_sib_mod2_idx0 :
    [0x80#8, 0x81#8, 0x82#8, 0x83#8, 0x84#8, 0x85#8, 0x86#8, 0x87#8].map
        (fun x => decodedAt .sib false false false [0x84#8, x]) =
      [some (.sibMod2Idx0Bs0 2#2), some (.sibMod2Idx0Bs1 2#2), some (.sibMod2Idx0Bs2 2#2),
       some (.sibMod2Idx0Bs3 2#2), some (.sibMod2Idx0Bs4 2#2), some (.sibMod2Idx0Bs5B5 2#2),
       some (.sibMod2Idx0Bs6 2#2), some (.sibMod2Idx0Bs7 2#2)] ∧
    decodedAt .sib false true false [0x84#8, 0x85#8] = some (.sibMod2Idx0Bs5B13 2#2) := by decide

theorem test_words_sib_mod2_idx1 :
    [0x88#8, 0x89#8, 0x8A#8, 0x8B#8, 0x8C#8, 0x8D#8, 0x8E#8, 0x8F#8].map
        (fun x => decodedAt .sib false false false [0x84#8, x]) =
      [some (.sibMod2Idx1Bs0 2#2), some (.sibMod2Idx1Bs1 2#2), some (.sibMod2Idx1Bs2 2#2),
       some (.sibMod2Idx1Bs3 2#2), some (.sibMod2Idx1Bs4 2#2), some (.sibMod2Idx1Bs5B5 2#2),
       some (.sibMod2Idx1Bs6 2#2), some (.sibMod2Idx1Bs7 2#2)] ∧
    decodedAt .sib false true false [0x84#8, 0x8D#8] = some (.sibMod2Idx1Bs5B13 2#2) := by decide

theorem test_words_sib_mod2_idx2 :
    [0x90#8, 0x91#8, 0x92#8, 0x93#8, 0x94#8, 0x95#8, 0x96#8, 0x97#8].map
        (fun x => decodedAt .sib false false false [0x84#8, x]) =
      [some (.sibMod2Idx2Bs0 2#2), some (.sibMod2Idx2Bs1 2#2), some (.sibMod2Idx2Bs2 2#2),
       some (.sibMod2Idx2Bs3 2#2), some (.sibMod2Idx2Bs4 2#2), some (.sibMod2Idx2Bs5B5 2#2),
       some (.sibMod2Idx2Bs6 2#2), some (.sibMod2Idx2Bs7 2#2)] ∧
    decodedAt .sib false true false [0x84#8, 0x95#8] = some (.sibMod2Idx2Bs5B13 2#2) := by decide

theorem test_words_sib_mod2_idx3 :
    [0x98#8, 0x99#8, 0x9A#8, 0x9B#8, 0x9C#8, 0x9D#8, 0x9E#8, 0x9F#8].map
        (fun x => decodedAt .sib false false false [0x84#8, x]) =
      [some (.sibMod2Idx3Bs0 2#2), some (.sibMod2Idx3Bs1 2#2), some (.sibMod2Idx3Bs2 2#2),
       some (.sibMod2Idx3Bs3 2#2), some (.sibMod2Idx3Bs4 2#2), some (.sibMod2Idx3Bs5B5 2#2),
       some (.sibMod2Idx3Bs6 2#2), some (.sibMod2Idx3Bs7 2#2)] ∧
    decodedAt .sib false true false [0x84#8, 0x9D#8] = some (.sibMod2Idx3Bs5B13 2#2) := by decide

theorem test_words_sib_mod2_idx4 :
    [0xA0#8, 0xA1#8, 0xA2#8, 0xA3#8, 0xA4#8, 0xA5#8, 0xA6#8, 0xA7#8].map
        (fun x => decodedAt .sib false false false [0x84#8, x]) =
      [some (.sibMod2Idx4Bs0 2#2), some (.sibMod2Idx4Bs1 2#2), some (.sibMod2Idx4Bs2 2#2),
       some (.sibMod2Idx4Bs3 2#2), some (.sibMod2Idx4Bs4 2#2), some (.sibMod2Idx4Bs5B5 2#2),
       some (.sibMod2Idx4Bs6 2#2), some (.sibMod2Idx4Bs7 2#2)] ∧
    decodedAt .sib false true false [0x84#8, 0xA5#8] = some (.sibMod2Idx4Bs5B13 2#2) := by decide

theorem test_words_sib_mod2_idx5 :
    [0xA8#8, 0xA9#8, 0xAA#8, 0xAB#8, 0xAC#8, 0xAD#8, 0xAE#8, 0xAF#8].map
        (fun x => decodedAt .sib false false false [0x84#8, x]) =
      [some (.sibMod2Idx5Bs0 2#2), some (.sibMod2Idx5Bs1 2#2), some (.sibMod2Idx5Bs2 2#2),
       some (.sibMod2Idx5Bs3 2#2), some (.sibMod2Idx5Bs4 2#2), some (.sibMod2Idx5Bs5B5 2#2),
       some (.sibMod2Idx5Bs6 2#2), some (.sibMod2Idx5Bs7 2#2)] ∧
    decodedAt .sib false true false [0x84#8, 0xAD#8] = some (.sibMod2Idx5Bs5B13 2#2) := by decide

theorem test_words_sib_mod2_idx6 :
    [0xB0#8, 0xB1#8, 0xB2#8, 0xB3#8, 0xB4#8, 0xB5#8, 0xB6#8, 0xB7#8].map
        (fun x => decodedAt .sib false false false [0x84#8, x]) =
      [some (.sibMod2Idx6Bs0 2#2), some (.sibMod2Idx6Bs1 2#2), some (.sibMod2Idx6Bs2 2#2),
       some (.sibMod2Idx6Bs3 2#2), some (.sibMod2Idx6Bs4 2#2), some (.sibMod2Idx6Bs5B5 2#2),
       some (.sibMod2Idx6Bs6 2#2), some (.sibMod2Idx6Bs7 2#2)] ∧
    decodedAt .sib false true false [0x84#8, 0xB5#8] = some (.sibMod2Idx6Bs5B13 2#2) := by decide

theorem test_words_sib_mod2_idx7 :
    [0xB8#8, 0xB9#8, 0xBA#8, 0xBB#8, 0xBC#8, 0xBD#8, 0xBE#8, 0xBF#8].map
        (fun x => decodedAt .sib false false false [0x84#8, x]) =
      [some (.sibMod2Idx7Bs0 2#2), some (.sibMod2Idx7Bs1 2#2), some (.sibMod2Idx7Bs2 2#2),
       some (.sibMod2Idx7Bs3 2#2), some (.sibMod2Idx7Bs4 2#2), some (.sibMod2Idx7Bs5B5 2#2),
       some (.sibMod2Idx7Bs6 2#2), some (.sibMod2Idx7Bs7 2#2)] ∧
    decodedAt .sib false true false [0x84#8, 0xBD#8] = some (.sibMod2Idx7Bs5B13 2#2) := by decide

/-! ## Vectors of 95_test_vectors.md -/

theorem test_P1 : okOf (decodeOne (onBytes [0xC3#8])) = some (1, []) := by decide

/-- lock and opsize. -/
theorem test_P2 :
    flagsOf (decodeOne (onBytes [0xF0#8, 0x66#8, 0xC3#8])) =
      some [true, false, false, false, false, false, false, false, false, false, false, true, false] := by decide

/-- The overloaded bytes are segment overrides. -/
theorem test_P4 :
    flagsOf (decodeOne (onBytes [0x2E#8, 0x3E#8, 0xC3#8])) =
      some [false, true, false, true, false, false, false, false, false, false, false, false, false] := by decide

theorem test_P5_opsize_leaves_the_width :
    okOf (decodeOne (onBytes [0x66#8, 0x89#8, 0xD8#8])) = some (3, [.reg (g32 0#4), .reg (g32 3#4)]) := by decide

theorem test_P7 : errOf (decodeOne (onBytes [0xF0#8])) = some .truncated := by decide

theorem test_X3 : errOf (decodeOne (onBytes [0x48#8, 0x66#8, 0xC3#8])) = some .unknownOpcode := by decide

theorem test_X5 : errOf (decodeOne (onBytes [0x48#8])) = some .truncated := by decide

theorem test_X7 :
    okOf (decodeOne (onBytes [0x4C#8, 0x89#8, 0xD8#8])) = some (3, [.reg (g64 0#4), .reg (g64 11#4)]) := by decide

theorem test_O4 :
    okOf (decodeOne (onBytes [0x0F#8, 0x38#8, 0x00#8, 0xC1#8])) = some (4, [.reg (mm 0#4), .reg (mm 1#4)]) := by decide

theorem test_O5 :
    okOf (decodeOne (onBytes [0x0F#8, 0x3A#8, 0x0F#8, 0xC1#8])) = some (4, [.reg (mm 0#4), .reg (mm 1#4)]) := by decide

theorem test_O8 : errOf (decodeOne (onBytes [0x0F#8, 0x38#8])) = some .truncated := by decide

theorem test_A1 :
    okOf (decodeOne (onBytes [0x48#8, 0x89#8, 0xD8#8])) = some (3, [.reg (g64 0#4), .reg (g64 3#4)]) := by decide

theorem test_A4 :
    okOf (decodeOne (onBytes [0x45#8, 0x0F#8, 0x28#8, 0xC1#8])) = some (4, [.reg (xmm 8#4), .reg (xmm 9#4)]) := by decide

theorem test_A6 :
    okOf (decodeOne (onBytes [0x41#8, 0x0F#8, 0xA5#8, 0xD8#8])) =
      some (4, [.reg (g32 8#4), .reg (g32 3#4), .lit ⟨"cl"⟩]) := by decide

theorem test_A8 :
    okOf (decodeOne (onBytes [0x8B#8, 0x45#8, 0xFC#8])) =
      some (3, [.reg (g32 0#4),
        .mem { base := some (g32 5#4), index := none, disp := some (-4), lst := [.r (g32 5#4), .d (-4)] }]) := by decide

/-- Two bytes only: no displacement-only form without SIB (43_addressing_mode.md R200). -/
theorem test_A10 :
    okOf (decodeOne (onBytes [0x8B#8, 0x05#8, 0x78#8, 0x56#8, 0x34#8, 0x12#8])) =
      some (2, [.reg (g32 0#4), .mem { base := some (g32 5#4), index := none, disp := none, lst := [.r (g32 5#4)] }]) := by
  decide

theorem test_A14 :
    okOf (decodeOne (onBytes [0x8B#8, 0x80#8, 0x00#8, 0x00#8, 0x00#8, 0x80#8])) =
      some (6, [.reg (g32 0#4),
        .mem { base := some (g32 0#4), index := none, disp := some (-2147483648),
               lst := [.r (g32 0#4), .d (-2147483648)] }]) := by decide

theorem test_B2 :
    okOf (decodeOne (onBytes [0x48#8, 0x8B#8, 0x04#8, 0xD8#8])) =
      some (4, [.reg (g64 0#4),
        .mem { base := some (g64 0#4), index := some { scale := .s8, reg := g64 3#4 }, disp := none,
               lst := [.r (g64 0#4), .sr .s8 (g64 3#4)] }]) := by decide

theorem test_B4 :
    okOf (decodeOne (onBytes [0x48#8, 0x8D#8, 0x04#8, 0x8D#8, 0x10#8, 0x00#8, 0x00#8, 0x00#8])) =
      some (8, [.reg (g64 0#4),
        .mem { base := none, index := some { scale := .s4, reg := g64 1#4 }, disp := some 16,
               lst := [.sr .s4 (g64 1#4), .d 16] }]) := by decide

/-- The list view of a base-5 form has the register last. -/
theorem test_B8 :
    okOf (decodeOne (onBytes [0x8B#8, 0x44#8, 0x0D#8, 0x08#8])) =
      some (4, [.reg (g32 0#4),
        .mem { base := some (g32 5#4), index := some { scale := .s1, reg := g32 1#4 }, disp := some 8,
               lst := [.r (g32 1#4), .d 8, .r (g32 5#4)] }]) := by decide

/-- Raw index 4 is no index even under REX.x. -/
theorem test_B13 :
    okOf (decodeOne (onBytes [0x4A#8, 0x8B#8, 0x04#8, 0xA0#8])) =
      some (4, [.reg (g64 0#4), .mem { base := some (g64 0#4), index := none, disp := none, lst := [.r (g64 0#4)] }]) := by
  decide

theorem test_B15 :
    okOf (decodeOne (onBytes [0x43#8, 0x8B#8, 0x44#8, 0x2D#8, 0x08#8])) =
      some (5, [.reg (g32 0#4),
        .mem { base := some (g32 13#4), index := some { scale := .s1, reg := g32 13#4 }, disp := some 8,
               lst := [.r (g32 13#4), .r (g32 13#4), .d 8] }]) := by decide

/-- Under the raw base-5 test the same bytes need four more (95 B16). -/
theorem test_B16_raw :
    errOf (decodeOne { onBytes [0x41#8, 0x8B#8, 0x04#8, 0x2D#8] with cfg := { Params.default with base5 := .raw } }) =
      some .truncated := by decide

theorem test_B19 :
    okOf (decodeOne (onBytes [0x0F#8, 0x28#8, 0x04#8, 0x0B#8])) =
      some (4, [.reg (xmm 0#4),
        .mem { base := some (xmm 3#4), index := some { scale := .s1, reg := xmm 1#4 }, disp := none,
               lst := [.r (xmm 3#4), .r (xmm 1#4)] }]) := by decide

theorem test_F1 : okOf (decodeOne (onBytes [0x50#8])) = some (1, [.lit ⟨"rax"⟩]) := by decide

theorem test_F2 : okOf (decodeOne (onBytes [0x41#8, 0x50#8])) = some (2, [.lit ⟨"r8"⟩]) := by decide

theorem test_F5 : okOf (decodeOne (onBytes [0x41#8, 0xEC#8])) = some (2, [.lit ⟨"al"⟩, .lit ⟨"dx"⟩]) := by decide

theorem test_E4 : errOf (decodeOne (onBytes [0x8B#8, 0x04#8])) = some .truncated := by decide

theorem test_E5 : errOf (decodeOne (onBytes [0x48#8, 0x8D#8, 0xC0#8])) = some .invalidEncoding := by decide

theorem test_E7 : errOf (decodeOne (onBytes [0x42#8, 0x8B#8, 0x80#8])) = some .invalidEncoding := by decide

theorem test_E8 :
    okOf (decodeOne (onBytes [0x42#8, 0x8B#8, 0xC0#8])) = some (3, [.reg (g32 0#4), .reg (g32 0#4)]) := by decide

theorem test_E9 :
    errOf (decodeOne (onBytes [0x8B#8, 0x04#8, 0x25#8, 0x78#8, 0x56#8, 0x34#8])) = some .truncated := by decide

/-! ## The cursor primitives (95 section 3.8) -/

/-- The buffer of the vectors, the cursor at `p`. -/
def cursorAt (p : Nat) : State :=
  { onBytes [0x7F#8, 0x80#8, 0xFF#8, 0x78#8, 0x56#8, 0x34#8, 0x12#8] with pos := p }

/-- The reply and the position after it. -/
def reply (s : State) (q : CurReq) : CurRsp × Nat := ((s.cursorPort q).1, (s.cursorPort q).2.pos)

theorem test_M1_M2 :
    reply (cursorAt 0) .peek = (.byte 0x7F#8, 0) ∧ reply (cursorAt 0) .readI8 = (.signed 127, 1) := by decide

theorem test_M3_M5 :
    reply (cursorAt 1) .readI8 = (.signed (-128), 2) ∧ reply (cursorAt 2) .readU8 = (.byte 255#8, 3) ∧
      reply (cursorAt 2) .readI8 = (.signed (-1), 3) := by decide

theorem test_M6_M8 :
    reply (cursorAt 3) .readI32 = (.signed 305419896, 7) ∧ reply (cursorAt 0) .readI32 = (.signed 2030010495, 4) ∧
      reply (cursorAt 1) .readI32 = (.signed 1450770304, 5) := by decide

theorem test_M9_M12 :
    (reply (cursorAt 4) .readI32).1 = .truncated ∧ (reply (cursorAt 7) .peek).1 = .truncated ∧
      reply (cursorAt 6) (.skip 1) = (.skipped, 7) ∧ (reply (cursorAt 6) (.skip 2)).1 = .truncated := by decide

/-! ## Names and codes -/

/-- 10_state.md R27. -/
theorem test_names :
    Params.regName Params.default (g64 4#4) = "rsp" ∧ Params.regName Params.default (g32 13#4) = "r13d" ∧
      Params.regName Params.default (xmm 15#4) = "xmm15" ∧ Params.regName Params.default (mm 7#4) = "mm7" := by decide

/-- 60_exceptions.md R281. -/
theorem test_status_codes :
    DecodeError.truncated.code = 1#2 ∧ DecodeError.unknownOpcode.code = 2#2 ∧ DecodeError.invalidEncoding.code = 3#2 := by
  decide

/-! ## One step on a word placed where the step fetches -/

theorem test_fetch_prefix :
    (match step (State.reset.withFetchWord 8 0x67) with
      | .next t => some (t.pfx.addrsize, t.pos)
      | _ => none) = some (true, 1) := by decide

theorem test_fetch_regdirect :
    slotsOf (step (State.reset.withFetchWord 8 0xC2)) = some [some (.reg (g32 2#4)), none] := by decide

theorem test_fetch_mem :
    slotsOf (step (State.reset.withFetchWord 8 0x47)) =
      some [some (.mem { base := some (g32 7#4), index := none, disp := some 0, lst := [.r (g32 7#4), .d 0] }), none] := by
  decide

theorem test_fetch_sib :
    slotsOf (step (State.reset.withFetchWord 16 0x04D8)) =
      some [some (.mem { base := some (g32 0#4), index := some { scale := .s8, reg := g32 3#4 }, disp := none,
                         lst := [.r (g32 0#4), .sr .s8 (g32 3#4)] }), none] := by decide

/-- A row with REX.x raises InvalidEncoding and shows the side outputs. -/
theorem test_rexx_row :
    errOf (exec .modrmMemMod2Rm7Rexx (inCall .rm [] movStoreDesc (rexOf false false true false))) =
      some .invalidEncoding := by decide

/-! ## Witnesses: concrete values that meet the hypotheses of the obligations together -/

theorem witness_DecodeReadsEveryEncoding :
    (Instr.wellFormed Params.default (.escThreeByteB 0xFF#8) = true ∧
      Ctx.admits Params.default ⟨.scan, false, false, false⟩ (.escThreeByteB 0xFF#8) = true) ∧
    (Instr.wellFormed Params.default (.sibMod2Idx7Bs5B13 3#2) = true ∧
      Ctx.admits Params.default ⟨.sib, true, true, false⟩ (.sibMod2Idx7Bs5B13 3#2) = true) := by decide

theorem default_oneBytePerFlag : Params.default.oneBytePerFlag := by
  intro v w f hv hw
  have key : ∀ u : Byte, Params.default.prefixOf u = some f → Params.default.byteOfFlag f = some u := by
    cases f <;> decide
  exact Option.some.inj ((key v hv).symm.trans (key w hw))

theorem witness_DecodedBytesAreTheEncoding :
    Params.default.oneBytePerFlag ∧
      decode Params.default ⟨.scan, false, false, false⟩ [0xF0#8] = .ok .pfxLock :=
  ⟨default_oneBytePerFlag, rfl⟩

theorem witness_EveryByteStringIsARow : ModRM.hasSib (ModRM.ofByte 0x84#8) = true := by decide

theorem witness_StepRunsTheDecodedForm :
    (begun [0xF0#8]).stage ≠ .idle ∧ (begun [0xF0#8]).stage ≠ .fixed ∧ (begun [0xF0#8]).quiet = true ∧
      decode (begun [0xF0#8]).cfg (begun [0xF0#8]).ctx (begun [0xF0#8]).formBytes = .ok .pfxLock :=
  ⟨by decide, by decide, by decide, rfl⟩

/-- A call that has read ModRM 44, and one that has read SIB 25 after it. -/
def atRm : State := { inCall .rm [0x44#8] movStoreDesc none with pos := 1, modrm := some (ModRM.ofByte 0x44#8) }

def atSib : State :=
  { inCall .sib [0x44#8, 0x25#8] movStoreDesc none with
    pos := 2, modrm := some (ModRM.ofByte 0x44#8), sib := some (Sib.ofByte 0x25#8) }

theorem witness_FormBytesAreAtTheCursor :
    (begun [0xF0#8]).stage = .scan ∧ (atRm.stage = .rm ∧ atRm.modrm = some (ModRM.ofByte 0x44#8)) ∧
      (atSib.stage = .sib ∧ atSib.modrm = some (ModRM.ofByte 0x44#8) ∧ atSib.sib = some (Sib.ofByte 0x25#8)) := by
  decide

/-- Each stage at the end of the buffer; ESC the last byte; ESC and each selector the last two. -/
theorem witness_MissingBytesRaiseTruncated :
    ((begun []).stage = .scan ∧ (begun []).quiet = true ∧ (begun []).len ≤ (begun []).pos) ∧
    ((inCall .modrm [] movStoreDesc none).stage = .modrm ∧ (inCall .modrm [] movStoreDesc none).quiet = true ∧
      (inCall .modrm [] movStoreDesc none).len ≤ (inCall .modrm [] movStoreDesc none).pos) ∧
    (Params.default.prefixOf Params.default.esc = none ∧ isRexByte Params.default.esc = false) ∧
    ((begun [0x0F#8]).buf.read 0 = 0x0F#8 ∧ (begun [0x0F#8]).len = 1) ∧
    ((begun [0x0F#8, 0x38#8]).buf.read 0 = 0x0F#8 ∧ (begun [0x0F#8, 0x38#8]).buf.read 1 = 0x38#8 ∧
      (begun [0x0F#8, 0x38#8]).len = 2) ∧
    ((begun [0x0F#8, 0x3A#8]).endScan.stage = .opcode ∧ (begun [0x0F#8, 0x3A#8]).endScan.buf.read 1 = 0x3A#8 ∧
      (begun [0x0F#8, 0x3A#8]).endScan.len = 2) := by decide

/-- The first and the last REX byte, and the bytes on either side of them. -/
theorem witness_RexDecoderReadsOneOptionalByte :
    ∀ v ∈ [0x40#8, 0x4F#8, 0x3F#8, 0x50#8],
      (begun [v]).stage = .scan ∧ (begun [v]).quiet = true ∧ (begun [v]).pos < (begun [v]).len ∧
        (begun [v]).cfg.prefixOf ((begun [v]).buf.read (begun [v]).pos) = none := by decide

theorem witness_AfterRexEveryByteIsAnOpcode :
    ∀ v ∈ [0x66#8, 0x48#8, 0xC3#8, 0x89#8, 0x00#8, 0xFF#8],
      (begun [v]).endScan.stage = .opcode ∧ (begun [v]).endScan.quiet = true ∧
        (begun [v]).endScan.pos < (begun [v]).endScan.len ∧
        (begun [v]).endScan.buf.read (begun [v]).endScan.pos = v ∧ v ≠ (begun [v]).endScan.cfg.esc := by decide

theorem witness_PrefixRowsSetTheirFlag :
    (begun [0x67#8]).pos < (begun [0x67#8]).len ∧
      ((.pfxAddrsize, .addrsize) : Instr × PfxFlag) ∈
        ([(.pfxOpsize, .opsize), (.pfxAddrsize, .addrsize)] : List (Instr × PfxFlag)) := by decide

theorem witness_RexRowWritesRex : (begun [0x4F#8]).pos < (begun [0x4F#8]).len := by decide

/-- Each shape with exactly its bytes left. -/
theorem witness_OpcodeRowsResolveTheirDescriptor :
    ((fixedDesc "nop" []).wf none = true ∧ (begun [0x90#8]).pos + 1 ≤ (begun [0x90#8]).len ∧
      etabT1.get 0x90#8 = some (fixedDesc "nop" [])) ∧
    ((fixedDesc "ret" []).wf none = true ∧ etabT1.get 0xC3#8 = some (fixedDesc "ret" [])) ∧
    (movStoreDesc.wf none = true ∧ etabT1.get 0x89#8 = some movStoreDesc) ∧
    ((begun [0x0F#8, 0x05#8]).pos + 2 ≤ (begun [0x0F#8, 0x05#8]).len ∧
      (fixedDesc "syscall" []).wf none = true ∧ etabT2.get 0x05#8 = some (fixedDesc "syscall" [])) ∧
    ((begun [0x0F#8, 0x38#8, 0#8]).pos + 3 ≤ (begun [0x0F#8, 0x38#8, 0#8]).len ∧
      (modrmDesc "pshufb" [encodedOp .mmx 0, encodedOp .mmx 1] 0 1).wf none = true ∧
      etabT3A.get 0#8 = some (modrmDesc "pshufb" [encodedOp .mmx 0, encodedOp .mmx 1] 0 1)) ∧
    ((modrmDesc "palignr" [encodedOp .mmx 0, encodedOp .mmx 1] 0 1).wf none = true ∧
      etabT3B.get 0x0F#8 = some (modrmDesc "palignr" [encodedOp .mmx 0, encodedOp .mmx 1] 0 1)) := by decide

theorem witness_MissingEntryIsUnknownOpcode :
    opcodeOf Params.default (Instr.row (.opcOneByte 0x06#8)) = some (.one 0x06#8) ∧
      (begun [0x06#8]).pos + Row.consumes (Instr.row (.opcOneByte 0x06#8)) ≤ (begun [0x06#8]).len ∧
      cellOf (begun [0x06#8]).cfg (.one 0x06#8) = none := by decide

/-- Parameters whose `T1(06)` has a register operand without ModRM. -/
def illFormed : Params := { Params.default with t1 := { cells := [(0x06#8, fixedDesc "x" [encodedOp .gpr 0])] } }

theorem witness_IllFormedDescriptorIsRefused :
    opcodeOf illFormed (Instr.row (.opcOneByte 0x06#8)) = some (.one 0x06#8) ∧
      (begun [0x06#8]).pos + Row.consumes (Instr.row (.opcOneByte 0x06#8)) ≤ (begun [0x06#8]).len ∧
      cellOf illFormed (.one 0x06#8) = some (fixedDesc "x" [encodedOp .gpr 0]) ∧
      (fixedDesc "x" [encodedOp .gpr 0]).wf illFormed.nslot = false := by decide

/-- The same opcode byte, once as the last byte and once under a prefix flag with bytes after it. -/
theorem witness_OpcodeResolutionIsPure :
    let s := begun [0x06#8]
    let s' := { begun [0x06#8, 0x90#8] with pfx := PrefixSet.empty.set .lock, rex := rexOf true true true true }
    s.cfg = s'.cfg ∧ opcodeOf s.cfg (Instr.row (.opcOneByte 0x06#8)) = some (.one 0x06#8) ∧
      s.pos + 1 ≤ s.len ∧ s'.pos + 1 ≤ s'.len ∧
      (∃ t, exec (.opcOneByte 0x06#8) s = .next t) ∧ ∃ t, exec (.opcOneByte 0x06#8) s' = .next t :=
  ⟨rfl, by decide, by decide, by decide, ⟨_, rfl⟩, ⟨_, rfl⟩⟩

/-- One state for the rows that store an operand, with REX.r and REX.b set and four bytes left. -/
def storing (st : Stage) : State :=
  inCall st [0xFF#8, 0x00#8, 0x00#8, 0x80#8] movStoreDesc (rexOf true true false true)

/-- MODRM_REG. -/
theorem witness_RegRowStoresTheRegOperand :
    (storing .modrm).desc = some movStoreDesc ∧ movStoreDesc.deref movStoreDesc.r = some (encodedOp .gpr 1) ∧
      (storing .modrm).slots = some [none, none] ∧ (storing .modrm).pos < (storing .modrm).len := by decide

/-- What the rows that store `op` share: the descriptor, `op` at index 0, and the slots. -/
def storesOp (s : State) : Bool :=
  s.desc == some movStoreDesc && movStoreDesc.deref movStoreDesc.opRole == some (encodedOp .rm 0) &&
    s.slots == some [none, none]

theorem witness_RegdirectRowStoresARegister : storesOp (storing .rm) = true := by decide

theorem witness_NoSibRowsMod0StoreTheBase :
    storesOp (storing .rm) = true ∧ Instr.row .modrmMemMod0Rm5 = .mem .m0 5#3 false := by decide

/-- One displacement byte, and exactly the four that remain. -/
theorem witness_NoSibRowsMod12StoreBaseAndDisplacement :
    storesOp (storing .rm) = true ∧
      (Instr.row .modrmMemMod1Rm0 = .mem .m1 0#3 false ∧ (storing .rm).pos + 1 ≤ (storing .rm).len ∧
        (storing .rm).dispAt .m1 = some (-1)) ∧
      (Instr.row .modrmMemMod2Rm7 = .mem .m2 7#3 false ∧ (storing .rm).pos + 4 ≤ (storing .rm).len ∧
        (storing .rm).dispAt .m2 = some (-2147483393)) := by decide

theorem witness_SibRowsMod0StoreBaseAndIndex :
    storesOp (storing .sib) = true ∧ Instr.row (.sibMod0Idx4Bs5B13 0#2) = .sib .m0 4#3 5#3 false 0#2 ∧
      Instr.row (.sibMod0Idx7Bs7 3#2) = .sib .m0 7#3 7#3 false 3#2 := by decide

theorem witness_SibRowsMod12StoreBaseIndexAndDisplacement :
    storesOp (storing .sib) = true ∧
      (Instr.row (.sibMod1Idx4Bs4 0#2) = .sib .m1 4#3 4#3 false 0#2 ∧ (storing .sib).dispAt .m1 = some (-1)) ∧
      (Instr.row (.sibMod2Idx0Bs7 3#2) = .sib .m2 0#3 7#3 false 3#2 ∧ (storing .sib).pos + 4 ≤ (storing .sib).len ∧
        (storing .sib).dispAt .m2 = some (-2147483393)) := by decide

theorem witness_SibBase5RowsMod0StoreNoBase :
    storesOp (storing .sib) = true ∧ Instr.row (.sibMod0Idx4Bs5B5 1#2) = .sib .m0 4#3 5#3 true 1#2 ∧
      (storing .sib).pos + 4 ≤ (storing .sib).len ∧ (storing .sib).dispAt .m2 = some (-2147483393) := by decide

/-- Both displacements; and a state with REX.b 0, for the clause on register 5. -/
theorem witness_SibBase5RowsMod12StoreRegisterFive :
    storesOp (storing .sib) = true ∧
      (Instr.row (.sibMod1Idx7Bs5B5 0#2) = .sib .m1 7#3 5#3 true 0#2 ∧ (storing .sib).dispAt .m1 = some (-1)) ∧
      (Instr.row (.sibMod2Idx4Bs5B5 0#2) = .sib .m2 4#3 5#3 true 0#2 ∧ (storing .sib).pos + 4 ≤ (storing .sib).len) ∧
      (inCall .sib [] movStoreDesc none).rexB = false := by decide

theorem witness_InvalidRowsRaiseInvalidEncoding :
    Instr.row (.modrmRegdirectInvalid 7#3) = .direct true 7#3 ∧
      Instr.row .modrmMemMod2Rm7Rexx = .mem .m2 7#3 true := by decide

/-- REX.x, `mod` 2, the displacement missing: E7 of 95_test_vectors.md. -/
theorem witness_RexXWithoutSibIsInvalid :
    let s := { inCall .rm [] movStoreDesc (rexOf false false true false) with modrm := some (ModRM.ofByte 0x80#8) }
    s.stage = .rm ∧ s.quiet = true ∧ s.modrm = some ⟨2#2, 0#3, 0#3⟩ ∧ (2#2 : BitVec 2) ≠ 3#2 ∧ (0#3 : BitVec 3) ≠ 4#3 ∧
      s.rexX = true := by decide

/-- ETAB's `lea`, which has an `m` operand. -/
def leaDesc : OpcodeDescriptor :=
  { tag := ⟨"lea"⟩, operands := [encodedOp .gpr 0, encodedOp .rm 1], modrm := true, r := some 0, m := some 1, rm := none }

theorem witness_RegisterFormOfMemoryOnlyOpcodeIsInvalid :
    (∀ d ∈ [leaDesc, movStoreDesc],
      let s := { inCall .rm [] d (rexOf false false true false) with modrm := some (ModRM.ofByte 0xC0#8) }
      s.stage = .rm ∧ s.quiet = true ∧ s.modrm = some ⟨3#2, 0#3, 0#3⟩ ∧ s.desc = some d) ∧
      leaDesc.m.isSome = true ∧ movStoreDesc.m.isSome = false := by decide

/-- Both causes, and a state of the stage where neither holds. -/
theorem witness_InvalidEncodingHasExactlyTwoCauses :
    (let s := { inCall .rm [] leaDesc none with modrm := some (ModRM.ofByte 0xC0#8) }
     s.stage ≠ .idle ∧ s.quiet = true ∧ errOf (step s) = some .invalidEncoding) ∧
    (let s := { inCall .rm [] movStoreDesc (rexOf false false true false) with modrm := some (ModRM.ofByte 0x07#8) }
     s.stage ≠ .idle ∧ s.quiet = true ∧ errOf (step s) = some .invalidEncoding) ∧
    (let s := { inCall .rm [] movStoreDesc none with modrm := some (ModRM.ofByte 0x07#8) }
     s.stage ≠ .idle ∧ s.quiet = true ∧ errOf (step s) = none) := by decide

theorem witness_SibFollowsRowsReadTheSibByte :
    Instr.row .modrmSibFollowsMod2 = .follows .m2 ∧ (storing .rm).pos < (storing .rm).len := by decide

/-- Nothing left for a prefix; two bytes for a three-byte opcode; none for a ModRM or a SIB byte; three bytes for the
four of a displacement. -/
theorem witness_RowsShortOfBytesRaiseTruncated :
    ((begun []).pos ≤ (begun []).len ∧ (begun []).len < (begun []).pos + Row.consumes (Instr.row .pfxLock)) ∧
    ((begun [0x0F#8, 0x38#8]).len < (begun [0x0F#8, 0x38#8]).pos + Row.consumes (Instr.row (.escThreeByteA 0#8))) ∧
    ((inCall .modrm [] movStoreDesc none).len < Row.consumes (Instr.row (.modrmReg 0#2 0#3 0#3))) ∧
    ((inCall .rm [] movStoreDesc none).len < Row.consumes (Instr.row .modrmSibFollowsMod0)) ∧
    (Row.buildsMem (Instr.row (.sibMod0Idx0Bs5B5 0#2)) = true ∧
      (inCall .sib [1#8, 2#8, 3#8] movStoreDesc none).opRole.isSome = true ∧
      (inCall .sib [1#8, 2#8, 3#8] movStoreDesc none).len < Row.consumes (Instr.row (.sibMod0Idx0Bs5B5 0#2))) := by decide

/-- Both clauses: raw index 4 with base 4, and with base 5. -/
theorem witness_SibWithoutIndexIsTheNoSibForm :
    (Instr.row (.sibMod1Idx4Bs0 3#2) = .sib .m1 4#3 0#3 false 3#2 ∧ Instr.row .modrmMemMod1Rm0 = .mem .m1 0#3 false) ∧
    (Instr.row (.sibMod1Idx4Bs5B5 3#2) = .sib .m1 4#3 5#3 true 3#2 ∧ Instr.row .modrmMemMod1Rm5 = .mem .m1 5#3 false ∧
      (storing .sib).opRole = some (encodedOp .rm 0) ∧
      (slotsOf (exec (.sibMod1Idx4Bs5B5 3#2) (storing .sib))).isSome = true ∧
      (slotsOf (exec .modrmMemMod1Rm5 (storing .sib))).isSome = true) := by decide


theorem witness_RowsChangeOnlyTheirRegisters : ∃ t, exec (.modrmReg 0#2 1#3 0#3) (storing .modrm) = .next t := ⟨_, rfl⟩

/-- One row of each clause, from states that hold a slot array before and after. -/
theorem witness_RowsWriteOneSlot :
    slotsOf (exec .pfxLock (storing .modrm)) = some [none, none] ∧
      slotsOf (exec (.rex true false false false) (storing .modrm)) = some [none, none] ∧
      slotsOf (exec .modrmSibFollowsMod1 (storing .rm)) = some [none, none] ∧
      slotsOf (exec (.modrmReg 0#2 1#3 0#3) (storing .modrm)) = some [none, some (.reg (g64 9#4))] ∧
      slotsOf (exec (.modrmRegdirect 7#3) (storing .rm)) = some [some (.reg (g64 15#4)), none] ∧
      (slotsOf (exec .modrmMemMod2Rm7 (storing .rm))).isSome = true ∧
      (slotsOf (exec (.sibMod0Idx4Bs5B5 0#2) (storing .sib))).isSome = true ∧
      slotsOf (exec .t189 (storing .modrm)) = some [none, none] := by decide

/-- ETAB's `shld`, its two encoded operands filled and REX.b set. -/
def shldDesc : OpcodeDescriptor := modrmDesc "shld" [encodedOp .rm 0, encodedOp .gpr 1, fixedOne 2 "cl"] 1 0

def atFixed : State :=
  { inCall .fixed [] shldDesc (rexOf false false false true) with
    slots := some [some (.reg (g32 0#4)), some (.reg (g32 3#4)), none] }

theorem witness_RowsWriteNoMemory :
    (∃ t, exec (.sibMod1Idx4Bs5B5 3#2) (storing .sib) = .next t) ∧
      (atFixed.stage ≠ .idle ∧ ∃ t, step atFixed = .next t) := ⟨⟨_, rfl⟩, by decide, _, rfl⟩

theorem witness_FixresFillsTheFixedSlots :
    (atFixed.stage = .fixed ∧ atFixed.quiet = true ∧ atFixed.desc = some shldDesc ∧
      shldDesc.wf atFixed.cfg.nslot = true) ∧
    ∃ l, atFixed.slots = some l ∧ l.length = shldDesc.operands.length ∧
      ∀ o, o ∈ shldDesc.operands → o.kind ≠ .fixed → ∃ v, l[o.index]? = some (some v) := by
  refine ⟨by decide, _, rfl, rfl, ?_⟩
  intro o ho hk
  simp only [shldDesc, modrmDesc, List.mem_cons, List.not_mem_nil, or_false] at ho
  rcases ho with rfl | rfl | rfl
  · exact ⟨_, rfl⟩
  · exact ⟨_, rfl⟩
  · exact absurd rfl hk

/-- Two literals: REX.b 1 with `alt1`, REX.b 0, and a single literal. -/
theorem witness_FixresFillsTheFixedSlots_literals :
    (fixedTwo 0 "rax" "r8").alt1 = some ⟨"r8"⟩ ∧ (fixedTwo 0 "rax" "r8").alt0 = some ⟨"rax"⟩ ∧
      (fixedOne 0 "al").alt1 = none ∧ (inCall .fixed [] shldDesc (rexOf false false false true)).rexB = true ∧
      (inCall .fixed [] shldDesc none).rexB = false := by decide

/-- Both ends of the range of `MemRead`, and a reply of every primitive that is Truncated. -/
theorem witness_PrimitivesFailExactlyWhenBytesAreMissing :
    (cursorAt 0).memRead 3 4 = some [0x78#8, 0x56#8, 0x34#8, 0x12#8] ∧ (cursorAt 0).memRead 4 4 = none ∧
      ∀ q ∈ [CurReq.peek, .skip 1, .readU8, .readI8, .readI32], ((cursorAt 7).cursorPort q).1 = .truncated := by decide

theorem witness_PrimitivesAnswerTheBytes :
    (cursorAt 6).pos < (cursorAt 6).len ∧ (cursorAt 6).pos + 1 ≤ (cursorAt 6).len ∧
      (cursorAt 3).pos + 4 ≤ (cursorAt 3).len := by decide

theorem witness_EveryCallStartsFresh :
    { onBytes [0xC3#8] with host := [.start] }.stage = .idle ∧
      { onBytes [0xC3#8] with host := [.start] }.host = .start :: [] := by decide

/-- A reset between calls, and one during a call. -/
theorem witness_ResetLosesTheCallAndKeepsTheBuffer :
    ({ onBytes [] with host := [.reset] }.host = .reset :: [] ∧ { onBytes [] with host := [.reset] }.stage = .idle) ∧
      ({ begun [] with host := [.reset] }.host = .reset :: [] ∧ { begun [] with host := [.reset] }.stage ≠ .idle) := by
  decide

theorem witness_OverlappingCallIsRefused :
    { begun [] with host := [.start] }.stage ≠ .idle ∧ { begun [] with host := [.start] }.host = .start :: [] := by decide

/-- The positions LEN and LEN + 1; a buffer loaded with the cursor at its end and one beyond it; with POS_BITS 0 a buffer
of one byte is too long; `await`; no move. -/
theorem witness_CallerMovesTheCursorBetweenCalls :
    (onBytes [1#8, 2#8]).stage = .idle ∧ (2 ≤ (onBytes [1#8, 2#8]).len) ∧ ((onBytes [1#8, 2#8]).len < 3) ∧
      ([3#8].length < 2 ^ (onBytes [1#8, 2#8]).cfg.posBits ∧ 1 ≤ [3#8].length) ∧
      ([3#8].length < 2 ^ (onBytes [1#8, 2#8]).cfg.posBits ∧ [3#8].length < 2) ∧
      (let s := { onBytes [] with cfg := { Params.default with posBits := 0 }, host := [.load [3#8] 0] }
       s.stage = .idle ∧ s.host = .load [3#8] 0 :: [] ∧ 2 ^ s.cfg.posBits ≤ [3#8].length) ∧
      { onBytes [] with host := [.await] }.host = .await :: [] ∧ (onBytes []).host = [] := by decide

/-- The done port a step leaves. -/
def doneOf : Result → Option DonePort
  | .next s => s.donePort
  | _ => none

/-- 95 F1: an OK call shows STATUS 0, the type, one operand. -/
theorem test_done_ok :
    doneOf (decodeOne (onBytes [0x50#8])) =
      some { status := 0#2, tag := some ⟨"push"⟩, nops := 1, operands := [.lit ⟨"rax"⟩] } := by decide

/-- 95 E2, E1 and E5: each error shows its code and nothing else. -/
theorem test_done_errors :
    doneOf (decodeOne (onBytes [0x0F#8])) = some { status := 1#2, tag := none, nops := 0, operands := [] } ∧
      doneOf (decodeOne (onBytes [0x06#8])) = some { status := 2#2, tag := none, nops := 0, operands := [] } ∧
      doneOf (decodeOne (onBytes [0x48#8, 0x8D#8, 0xC0#8])) =
        some { status := 3#2, tag := none, nops := 0, operands := [] } := by decide

/-- The side port a step leaves: LOCK, then REX.present, w, r, x, b. -/
def sideOf : Result → Option (List Bool)
  | .next s => s.sidePort.map fun p => [p.pfx.lock, p.present, p.w, p.r, p.x, p.b]
  | _ => none

/-- 10_state.md R47: LOCK and REX.W r x b = 1 0 0 1 beside an OK call; REX absent beside UnknownOpcode; nothing beside a
call that ends in the prefix scan. -/
theorem test_side :
    sideOf (decodeOne (onBytes [0xF0#8, 0x49#8, 0x89#8, 0xD8#8])) = some [true, true, true, false, false, true] ∧
      sideOf (decodeOne (onBytes [0xF0#8, 0x06#8])) = some [true, false, false, false, false, false] ∧
      sideOf (decodeOne (onBytes [0xF0#8])) = none := by decide

/-- A step inside a call; a step that returns; one that ends each way with an error, in the prefix scan and with a byte at
hand; a reset. -/
theorem witness_DoneShowsStatusAndResult :
    (∃ t, step (begun [0xF0#8]) = .next t ∧ t.stage ≠ .idle) ∧
      (atFixed.quiet = true ∧ ∃ t, step atFixed = .next t ∧ t.stage = .idle) ∧
      ((begun []).quiet = true ∧ errOf (step (begun [])) = some .truncated ∧
        (begun []).stage = .scan ∧ (begun []).len ≤ (begun []).pos) ∧
      ((begun [0x06#8]).quiet = true ∧ errOf (step (begun [0x06#8])) = some .unknownOpcode) ∧
      (∃ t, step { begun [] with host := [.reset] } = .next t) :=
  ⟨⟨_, rfl, by decide⟩, ⟨by decide, _, rfl, rfl⟩, by decide, by decide, _, rfl⟩

theorem witness_EveryStepKeepsTheInvariant :
    (begun [0xF0#8, 0xC3#8]).Inv = true ∧ ∃ t, step (begun [0xF0#8, 0xC3#8]) = .next t := ⟨by decide, _, rfl⟩

theorem witness_EveryStepKeepsTheSixShapes :
    (storing .sib).shapesOk = true ∧ ∃ t, exec (.sibMod1Idx4Bs5B5 3#2) (storing .sib) = .next t := ⟨by decide, _, rfl⟩

theorem witness_NoStepChangesTheParameters : ∃ t, step (begun [0xF0#8]) = .next t := ⟨_, rfl⟩

/-- A step inside a call, and the step that returns. -/
theorem witness_CursorIsForwardOnly :
    ((begun [0xF0#8]).stage ≠ .idle ∧ ∃ t, step (begun [0xF0#8]) = .next t ∧ t.stage ≠ .idle) ∧
      (atFixed.stage ≠ .idle ∧ ∃ t i, step atFixed = .next t ∧ t.stage = .idle ∧ t.result = some (.ok i)) :=
  ⟨⟨by decide, _, rfl, by decide⟩, by decide, _, _, rfl, rfl, rfl⟩

theorem witness_OnlyResultOrResetEndsACall :
    atFixed.stage ≠ .idle ∧ ∃ t, step atFixed = .next t ∧ t.stage = .idle := ⟨by decide, _, rfl, rfl⟩

theorem witness_WellFormedParametersAreNeverRefused :
    (begun [0xF0#8]).Inv = true ∧ (begun [0xF0#8]).cfg.wf = true ∧ (begun [0xF0#8]).host = [] := by decide

theorem witness_PrefixesNeverChangeTheResult : (begun [0xF0#8]).stage ≠ .idle := by decide

theorem witness_RexAllZeroActsAsAbsent : (begun [0xF0#8]).endScan.stage ≠ .idle ∧ (begun [0xF0#8]).endScan.rex = none := by
  decide

/-- No prefix, and two. -/
theorem witness_PrefixScanConsumesExactlyThePrefixes :
    ((begun [0xC3#8]).stage = .scan ∧ (begun [0xC3#8]).quiet = true ∧ (begun [0xC3#8]).pos + 0 < (begun [0xC3#8]).len ∧
      (begun [0xC3#8]).cfg.prefixOf ((begun [0xC3#8]).buf.read 0) = none) ∧
    (let s := begun [0xF0#8, 0x66#8, 0xC3#8]
     s.stage = .scan ∧ s.quiet = true ∧ s.pos + 2 < s.len ∧
      (∀ k, k < 2 → (s.cfg.prefixOf (s.buf.read (s.pos + k))).isSome = true) ∧
      s.cfg.prefixOf (s.buf.read (s.pos + 2)) = none) := by decide

theorem witness_StepsOfACallAmountToDecodeOne :
    (onBytes [0xC3#8]).stage = .idle ∧ (onBytes [0xC3#8]).host = [] ∧
      (onBytes [0xC3#8]).len - (onBytes [0xC3#8]).pos + 7 ≤ 8 := by decide

theorem witness_EveryCallEnds : (onBytes []).stage = .idle ∧ (onBytes []).host = [] := by decide

/-- A call that consumes a prefix, REX, one opcode byte, ModRM, SIB and a displacement of one byte. -/
theorem witness_SuccessfulCallConsumesItsParts :
    okOf (decodeOne (onBytes [0xF0#8, 0x48#8, 0x8B#8, 0x44#8, 0x24#8, 0x08#8])) =
      some (6, [.reg (g64 0#4),
        .mem { base := some (g64 4#4), index := none, disp := some 8, lst := [.r (g64 4#4), .d 8] }]) := by decide

/-- The same bytes from the start of one buffer and from position 2 of another. -/
theorem witness_OutcomeDependsOnlyOnTheBytesAhead :
    State.sameView (onBytes [0x89#8, 0xD8#8]) { onBytes [0xFF#8, 0xFF#8, 0x89#8, 0xD8#8] with pos := 2, drawn := 5 } :=
  ⟨rfl, rfl, by decide⟩

/-- `shld` returns a register for `r`, one for `rm` (`mod` 3) and a literal; `lea` a memory expression for `m`; `mov` one
for `rm` (`mod` 0). -/
theorem witness_ResultFitsItsDescriptor :
    okOf (decodeOne (onBytes [0x0F#8, 0xA5#8, 0xD8#8])) = some (3, [.reg (g32 0#4), .reg (g32 3#4), .lit ⟨"cl"⟩]) ∧
      okOf (decodeOne (onBytes [0x48#8, 0x8D#8, 0x00#8])) =
        some (3, [.reg (g64 0#4), .mem { base := some (g64 0#4), index := none, disp := none, lst := [.r (g64 0#4)] }]) ∧
      okOf (decodeOne (onBytes [0x8B#8, 0x03#8])) =
        some (2, [.reg (g32 0#4), .mem { base := some (g32 3#4), index := none, disp := none, lst := [.r (g32 3#4)] }]) := by
  decide

/-- The rows of R109, in its order; `rm` 4 is the SIB form. -/
theorem test_R109 :
    dispLength ⟨3#2, 0#3, 4#3⟩ true = 0 ∧ dispLength ⟨0#2, 0#3, 5#3⟩ true = 0 ∧ dispLength ⟨1#2, 0#3, 5#3⟩ false = 1 ∧
      dispLength ⟨2#2, 0#3, 0#3⟩ false = 4 ∧ dispLength ⟨0#2, 0#3, 4#3⟩ false = 0 ∧
      dispLength ⟨0#2, 0#3, 4#3⟩ true = 4 ∧ dispLength ⟨1#2, 0#3, 4#3⟩ true = 1 ∧
      dispLength ⟨2#2, 0#3, 4#3⟩ true = 4 := by decide

/-- The shapes of R106. -/
theorem test_R106 :
    (onBytes [0x90#8]).opcodeAt 0 = .one 0x90#8 ∧ (onBytes [0x0F#8, 0x05#8]).opcodeAt 0 = .two 0x0F#8 0x05#8 ∧
      (onBytes [0x0F#8, 0x38#8, 0x01#8]).opcodeAt 0 = .threeA 0x0F#8 0x38#8 0x01#8 ∧
      (onBytes [0x0F#8, 0x3A#8, 0x0F#8]).opcodeAt 0 = .threeB 0x0F#8 0x3A#8 0x0F#8 := by decide

/-- A call with a memory operand whose side outputs are shown. -/
theorem witness_OneWidthForEveryGeneralRegister :
    (okOf (decodeOne (onBytes [0x48#8, 0x8B#8, 0x04#8, 0xD8#8]))).isSome = true ∧
      (flagsOf (decodeOne (onBytes [0x48#8, 0x8B#8, 0x04#8, 0xD8#8]))).isSome = true := by decide

theorem witness_ExampleC3 :
    let s := onBytes [0xC3#8]
    s.cfg.cellC3Ok = true ∧ s.cfg.t1.get 0xC3#8 = some (fixedDesc "ret" []) ∧ s.cfg.prefixOf 0xC3#8 = none ∧
      s.cfg.esc ≠ 0xC3#8 ∧ s.pos < s.len ∧ s.buf.read s.pos = 0xC3#8 := by decide

theorem witness_Example4889D8 :
    let s := onBytes [0x48#8, 0x89#8, 0xD8#8]
    s.cfg.cell89Ok = true ∧ s.cfg.t1.get 0x89#8 = some movStoreDesc ∧ movStoreDesc.wf s.cfg.nslot = true ∧
      movStoreDesc.deref movStoreDesc.r = some (encodedOp .gpr 1) ∧
      movStoreDesc.deref movStoreDesc.rm = some (encodedOp .rm 0) ∧
      s.cfg.prefixOf 0x48#8 = none ∧ s.cfg.esc ≠ 0x89#8 ∧ s.pos + 3 ≤ s.len ∧
      s.buf.read s.pos = 0x48#8 ∧ s.buf.read (s.pos + 1) = 0x89#8 ∧ s.buf.read (s.pos + 2) = 0xD8#8 := by decide

end Sys2Proof.Tests
end

section
/-! SUPPORT. The caller's moves between calls, an equation for each with the condition it holds under, and what they
leave (00_scope.md R19; 60_exceptions.md R289, R301). -/

namespace Sys2Proof.Machine

/-! ## The moves of the caller -/

theorem hostStep_nil {s : State} (hh : s.host = []) : hostStep s = .next s := by
  simp [hostStep, hh]

theorem hostStep_await {s : State} {rest : List HostMove} (hh : s.host = .await :: rest) :
    hostStep s = .next { s with host := rest } := by
  simp [hostStep, hh]

theorem hostStep_setPos_of_le {s : State} {p : Nat} {rest : List HostMove} (hh : s.host = .setPos p :: rest)
    (hp : p ≤ s.len) : hostStep s = .next { s with pos := p, host := rest } := by
  simp [hostStep, hh, hp]

theorem hostStep_setPos_of_lt {s : State} {p : Nat} {rest : List HostMove} (hh : s.host = .setPos p :: rest)
    (hp : s.len < p) : hostStep s = .fault .positionOutsideBuffer := by
  simp [hostStep, hh, Nat.not_le.mpr hp]

theorem hostStep_load_of_le {s : State} {bytes : List Byte} {p : Nat} {rest : List HostMove}
    (hh : s.host = .load bytes p :: rest) (hb : bytes.length < 2 ^ s.cfg.posBits) (hp : p ≤ bytes.length) :
    hostStep s = .next { s with buf := Memory.ofBytes bytes, len := bytes.length, pos := p, host := rest } := by
  simp [hostStep, hh, hb, hp]

theorem hostStep_load_of_lt {s : State} {bytes : List Byte} {p : Nat} {rest : List HostMove}
    (hh : s.host = .load bytes p :: rest) (hb : bytes.length < 2 ^ s.cfg.posBits) (hp : bytes.length < p) :
    hostStep s = .fault .positionOutsideBuffer := by
  simp [hostStep, hh, hb, Nat.not_le.mpr hp]

theorem hostStep_load_tooLong {s : State} {bytes : List Byte} {p : Nat} {rest : List HostMove}
    (hh : s.host = .load bytes p :: rest) (hb : 2 ^ s.cfg.posBits ≤ bytes.length) :
    hostStep s = .fault .bufferTooLong := by
  simp [hostStep, hh, Nat.not_lt.mpr hb]

/-- Settles O41: between calls a step is the caller's move, and the loaded buffer is the canonical one of its bytes. -/
theorem callerMovesTheCursorBetweenCalls : Obligations.CallerMovesTheCursorBetweenCalls := by
  intro s rest hs
  rw [step_idle hs]
  refine ⟨fun p hh hp => hostStep_setPos_of_le hh hp, fun p hh hp => hostStep_setPos_of_lt hh hp, ?_,
    fun bytes p hh hb hp => hostStep_load_of_lt hh hb hp, fun bytes p hh hb => hostStep_load_tooLong hh hb,
    hostStep_await, hostStep_nil⟩
  intro bytes p hh hb hp
  exact ⟨Memory.ofBytes bytes, hostStep_load_of_le hh hb hp, Memory.ofBytes_wf bytes,
    fun k hk => Memory.read_ofBytes hk⟩

/-! ## The parameters are constant -/

@[simp] theorem errorState_cfg (s : State) (side : Option Side) (e : DecodeError) :
    (errorState s side e).cfg = s.cfg := rfl

@[simp] theorem resolvedState_cfg (s : State) (o : OpcBytes) (n : Nat) (d : OpcodeDescriptor) :
    (resolvedState s o n d).cfg = s.cfg := rfl

/-- No row changes a parameter. -/
theorem RowEffect.cfg_eq {s t : State} {i : Instr} (h : RowEffect s i t) : t.cfg = s.cfg := by
  cases h with
  | error side e => exact errorState_cfg s side e
  | opcode o d => exact resolvedState_cfg s o o.count d
  | pfx | rexByte | reg | direct | follows | mem => rfl

/-- No step of a call changes a parameter. -/
theorem CallEffect.cfg_eq {s t : State} (h : CallEffect s t) : t.cfg = s.cfg := by
  cases h with
  | row i t hf hs ht => exact ht.cfg_eq
  | truncated => exact errorState_cfg s _ .truncated
  | fixed d l ops => exact State.returnOk_cfg s _
  | reset => exact State.lostCall_cfg s

/-- No move of the caller changes a parameter. -/
theorem HostEffect.cfg_eq {s t : State} (h : HostEffect s t) : t.cfg = s.cfg := by
  cases h with
  | nothing | await | setPos | load => rfl
  | start => exact State.beginCall_cfg s
  | reset => exact State.resetBlock_cfg s

/-- Settles O45: neither a move of the caller between calls nor a step of a call changes a parameter. -/
theorem noStepChangesTheParameters : Obligations.NoStepChangesTheParameters := by
  intro s t h
  by_cases hs : s.stage = .idle
  · exact (step_next_idle hs h).cfg_eq
  · exact (step_next_call hs h).cfg_eq

end Sys2Proof.Machine
end

section
/-! SUPPORT. The frame of every row: the registers and the slot it writes, and what the opcode rows refuse (10_state.md
R22, R31, R41; 46_orchestrator.md R262). -/

namespace Sys2Proof.Machine

/-- Settles O14: every opcode row is the one shared operation, and that refuses an ill-formed descriptor. -/
theorem illFormedDescriptorIsRefused : Obligations.IllFormedDescriptorIsRefused := by
  intro s i o d ho hp hc hd
  obtain ⟨hx, hcount⟩ := exec_opcodeOf (s := s) ho
  rw [hx]
  exact opcodeRow_refused (hcount ▸ hp) ((OpcBytes.entry_eq o s.cfg).trans hc) hd

/-- The formats of an opcode row, each with its opcode bytes. -/
theorem opcodeOf_cases {p : Params} {r : Row} {o : OpcBytes} (h : opcodeOf p r = some o) :
    (∃ o1, (r = .oneByte o1 ∨ r = .cell o1) ∧ o = .one o1) ∨
    (∃ o2, r = .twoByte o2 ∧ o = .two p.esc o2) ∨
    (∃ o3, r = .threeByteA o3 ∧ o = .threeA p.esc p.selA o3) ∨
    (∃ o3, r = .threeByteB o3 ∧ o = .threeB p.esc p.selB o3) := by
  cases r <;> simp_all [opcodeOf]

/-- The formats of a row that builds a memory operand. -/
theorem row_cases_of_buildsMem {r : Row} (h : r.buildsMem = true) :
    (∃ k rm, r = .mem k rm false) ∨ ∃ k idx bs base5 ss, r = .sib k idx bs base5 ss := by
  cases r <;> simp_all [Row.buildsMem]

/-- Settles O32, effect by effect: each is an update of the registers its format names. -/
theorem rowsChangeOnlyTheirRegisters : Obligations.RowsChangeOnlyTheirRegisters := by
  intro s t i h
  cases exec_next h with
  | error side e => exact .inl ⟨side, e, rfl⟩
  | opcode o d ho =>
    right
    rcases opcodeOf_cases ho with ⟨o1, hr | hr, rfl⟩ | ⟨o2, hr, rfl⟩ | ⟨o3, hr, rfl⟩ | ⟨o3, hr, rfl⟩ <;> rw [hr] <;> rfl
  | pfx f hr | rexByte w r x b hr | reg mod reg rm o hr | direct rm o hr | follows k hr => right; rw [hr]
  | mem k o e hb hc =>
    right
    rcases row_cases_of_buildsMem hb with ⟨k', rm, hr⟩ | ⟨k', idx, bs, b5, ss, hr⟩ <;> rw [hr] at hc ⊢ <;> rw [hc]

/-- A slot array with one slot written: the other slots are as before. -/
theorem exists_set_of_map_set {α : Type} {slots : Option (List (Option α))} {l m : List (Option α)} {k : Nat} {v : α}
    (hl : slots = some l) (hm : slots.map (fun l => l.set k (some v)) = some m) :
    m = l.set k (some v) ∧ ∀ j, j ≠ k → m[j]? = l[j]? := by
  obtain rfl : l.set k (some v) = m := by simpa [hl] using hm
  exact ⟨rfl, fun j hj => List.getElem?_set_ne hj.symm⟩

/-- Settles O33, effect by effect: one slot is written, or none, or the array is allocated. -/
theorem rowsWriteOneSlot : Obligations.RowsWriteOneSlot := by
  intro s t i l m h hl hm
  cases exec_next h with
  | error side e => cases hm
  | opcode o d ho =>
    have hd : ∃ d', (resolvedState s o o.count d).desc = some d' ∧ m = List.replicate d'.operands.length none :=
      ⟨d, rfl, (Option.some.inj hm).symm⟩
    rcases opcodeOf_cases ho with ⟨o1, hr | hr, -⟩ | ⟨o2, hr, -⟩ | ⟨o3, hr, -⟩ | ⟨o3, hr, -⟩ <;> rw [hr] <;> exact hd
  | pfx f hr | rexByte w r x b hr | follows k hr => rw [hr]; exact Option.some.inj (hm.symm.trans hl)
  | reg mod reg rm o hr hp ho => rw [hr]; exact ⟨o, _, ho, exists_set_of_map_set hl hm⟩
  | direct rm o hr ho => rw [hr]; exact ⟨o, _, ho, exists_set_of_map_set hl hm⟩
  | mem k o e hb hc ho =>
    rcases row_cases_of_buildsMem hb with ⟨k', rm, hr⟩ | ⟨k', idx, bs, b5, ss, hr⟩ <;> rw [hr] <;>
      exact ⟨o, _, ho, exists_set_of_map_set hl hm⟩

end Sys2Proof.Machine
end

section
/-! SUPPORT. What the block shows, and how far the cursor moves, step by step (10_state.md R31, R32, R42, R47, R48). -/

namespace Sys2Proof.Machine

/-! ## Reset -/

/-- Settles O42: the reset state is one closed datum. -/
theorem resetMeetsTheInvariant : Obligations.ResetMeetsTheInvariant := by
  unfold Obligations.ResetMeetsTheInvariant
  decide

/-! ## The outputs -/

/-- A row goes on with the call, and shows what was shown before; or it raises an error. -/
theorem RowEffect.goesOn_or_error {s t : State} {i : Instr} (h : RowEffect s i t) (hs : s.stage ≠ .idle) :
    (t.stage ≠ .idle ∧ t.out = s.out) ∨
    ∃ side e, t = errorState s side e ∧
      (s.stage ≠ .scan ∨ opcodeOf s.cfg i.row ≠ none → side = some { pfx := s.pfx, rex := s.rex }) ∧
      (opcodeOf s.cfg i.row = none → i.row.consumes ≠ 0 → s.len < s.pos + i.row.consumes) := by
  cases h with
  | error side e h hp => exact .inr ⟨side, e, rfl, h, hp⟩
  | opcode o d => exact .inl ⟨by cases hm : d.modrm <;> simp [resolvedState, hm], rfl⟩
  | pfx => exact .inl ⟨hs, rfl⟩
  | rexByte | reg | direct | follows | mem => exact .inl ⟨by simp, rfl⟩

/-- The side output at the end of a call: shown unless PFXSCAN itself ran out of bytes (10_state.md R47). -/
def State.sideAtEnd (s : State) : Option Side :=
  if s.stage = .scan ∧ s.len ≤ s.pos then none else some { pfx := s.pfx, rex := s.rex }

/-- At `scan` the fetched row is an opcode row, or it consumes the one byte it was read from. -/
theorem FetchedAt.opcode_or_oneByte {s : State} {i : Instr} (h : FetchedAt s i) (hs : s.stage = .scan) :
    opcodeOf s.cfg i.row ≠ none ∨ i.row.consumes = 1 := by
  cases h with
  | opcode _ o ho => exact .inl (by simp [ho])
  | pfx _ f hr | rexByte _ w r x b hr => exact .inr (by rw [hr]; rfl)
  | modrm hs' | rm hs' | sib hs' => rw [hs] at hs'; cases hs'

/-- At `scan` a fetched row found its byte, so a row that raises an error shows the side output of the end. -/
theorem RowEffect.error_side {s t : State} {i : Instr} (hf : s.fetch = .ok i) (h : RowEffect s i t)
    (hs : s.stage ≠ .idle) (ht : t.stage = .idle) : ∃ e, t = errorState s s.sideAtEnd e := by
  rcases h.goesOn_or_error hs with ⟨hgo, -⟩ | ⟨side, e, rfl, hside, hlen⟩
  · exact absurd ht hgo
  refine ⟨e, ?_⟩
  by_cases hscan : s.stage = .scan
  · have hl : ¬ s.len ≤ s.pos := fun hl => by rw [fetch_end (.inl hscan) hl] at hf; cases hf
    have hopc : opcodeOf s.cfg i.row ≠ none := fun ho => by
      have hone := ((fetch_ok hf).opcode_or_oneByte hscan).resolve_left fun h => h ho
      have hmissing := hlen ho (by omega)
      omega
    rw [hside (.inr hopc), State.sideAtEnd, if_neg (by simp [hl])]
  · rw [hside (.inl hscan), State.sideAtEnd, if_neg (by simp [hscan])]

/-- Every end of a call: the result or the error, with the side output beside it, or a reset with nothing shown. -/
theorem CallEffect.out_cases {s t : State} (h : CallEffect s t) (hs : s.stage ≠ .idle) :
    (t.stage ≠ .idle ∧ t.out = s.out) ∨
    (t.stage = .idle ∧ ∃ r, t.out = some { result := r, side := s.sideAtEnd }) ∨
    (t.out = none ∧ ∃ rest, s.host = .reset :: rest) := by
  cases h with
  | row i t hf hfix ht =>
    by_cases hi : t.stage = .idle
    · obtain ⟨e, rfl⟩ := ht.error_side hf hs hi
      exact .inr (.inl ⟨rfl, _, rfl⟩)
    · rcases ht.goesOn_or_error hs with hgo | ⟨side, e, rfl, -⟩
      · exact .inl hgo
      · exact absurd rfl hi
  | truncated => exact .inr (.inl ⟨rfl, _, rfl⟩)
  | fixed d l ops hfix =>
    have hside : s.sideNow = s.sideAtEnd := by simp [State.sideAtEnd, sideNow_eq, hfix]
    exact .inr (.inl ⟨rfl, _, by rw [State.returnOk_out, hside]⟩)
  | reset rest hh => exact .inr (.inr ⟨rfl, rest, hh⟩)

/-- What `status`, `done` and `side` show is a function of `out`. -/
theorem ports_eq_of_out {s t : State} (h : t.out = s.out) :
    t.status = s.status ∧ t.donePort = s.donePort ∧ t.sidePort = s.sidePort := by
  simp only [State.status, State.donePort, State.sidePort, h, and_self]

/-- Settles O37, by the ways a step of a call ends. -/
theorem doneShowsStatusAndResult : Obligations.DoneShowsStatusAndResult := by
  intro s t hs h
  refine ⟨fun hi => ?_, fun hi hq => ?_, fun rest hh => ?_⟩
  · rcases (step_next_call hs h).out_cases hs with ⟨-, ho⟩ | ⟨hi', -⟩ | ⟨-, rest, hh⟩
    · exact ports_eq_of_out ho
    · exact absurd hi' hi
    · rw [step_reset hs hh] at h
      cases h
      exact absurd rfl hi
  · rcases (step_next_call hs h).out_cases hs with ⟨hgo, -⟩ | ⟨-, r, ho⟩ | ⟨-, rest, hh⟩
    · exact absurd hi hgo
    · refine ⟨by simp only [State.sidePort, ho, State.sideAtEnd]; split <;> rfl, ?_⟩
      cases r with
      | ok i => left; exact ⟨i, by simp [State.result, State.status, State.donePort, ho, CallResult.status]⟩
      | error e =>
        right
        exact ⟨(e, e.code), by cases e <;> simp [DecodeError.code],
          by simp [State.result, State.status, State.donePort, ho, CallResult.status]⟩
    · simp [State.quiet, hh] at hq
  · rw [step_reset hs hh] at h
    cases h
    exact ⟨rfl, rfl, rfl⟩

/-! ## The cursor -/

/-- An opcode has one to three bytes. -/
theorem OpcBytes.count_le (o : OpcBytes) : o.count ≤ 3 := by
  cases o <;> simp [OpcBytes.count]

theorem dispBytes_le (k : MemMod) : k.dispBytes ≤ 4 := by
  cases k <;> simp [MemMod.dispBytes]

/-- A row that goes on moves the cursor forward, by at most four bytes and not past the end. -/
theorem RowEffect.pos_forward {s t : State} {i : Instr} (h : RowEffect s i t) (ht : t.stage ≠ .idle) :
    s.pos ≤ t.pos ∧ t.pos ≤ s.pos + 4 ∧ (s.pos ≤ s.len → t.pos ≤ t.len) := by
  cases h with
  | error => exact absurd rfl ht
  | opcode o d _ _ _ hp => have := o.count_le; simp only [resolvedState]; omega
  | pfx | rexByte | reg | follows => dsimp only; omega
  | direct => simp
  | mem k o e _ _ _ hp => have := dispBytes_le k; dsimp only; omega

/-- Settles O46: a row moves the cursor forward, and the return leaves it. -/
theorem cursorIsForwardOnly : Obligations.CursorIsForwardOnly := by
  intro s t hs h
  cases step_next_call hs h with
  | row i t hf hfix ht =>
    refine ⟨ht.pos_forward, fun j hi hj => ?_⟩
    obtain ⟨e, rfl⟩ := ht.error_side hf hs hi
    cases hj
  | truncated => exact ⟨fun hi => absurd rfl hi, fun j _ hj => by cases hj⟩
  | fixed => exact ⟨fun hi => absurd rfl hi, fun _ _ _ => rfl⟩
  | reset => exact ⟨fun hi => absurd rfl hi, fun j _ hj => by cases hj⟩

/-! ## The six shapes -/

/-- The shapes of the slots and of the result, slot by slot and operand by operand. -/
theorem State.shapesOk_iff (s : State) : s.shapesOk = true ↔
    (∀ l, s.slots = some l → ∀ v, some v ∈ l → v.shapeOk = true) ∧
    (∀ i, s.result = some (.ok i) → ∀ v ∈ i.operands, v.shapeOk = true) := by
  rw [State.shapesOk, Bool.and_eq_true]
  refine and_congr ?_ ?_
  · cases s.slots with
    | none => simp
    | some l =>
      simp only [List.all_eq_true, Option.some.injEq, forall_eq']
      exact ⟨fun h v hv => h _ hv, fun h x hx => by cases x with
        | none => rfl
        | some v => exact h v hx⟩
  · cases ho : s.out with
    | none => simp [State.result, ho]
    | some o => cases hr : o.result <;> simp [State.result, ho, hr]

/-- A slot written with an operand of good shape keeps the slots' shapes. -/
theorem shapes_map_set {slots : Option (List (Option Operand))} {k : Nat} {w : Operand} (hw : w.shapeOk = true)
    (h : ∀ l, slots = some l → ∀ v, some v ∈ l → v.shapeOk = true) :
    ∀ l, slots.map (fun l => l.set k (some w)) = some l → ∀ v, some v ∈ l → v.shapeOk = true := by
  intro l hl v hv
  obtain ⟨l', hl', rfl⟩ := Option.map_eq_some_iff.mp hl
  rcases List.mem_or_eq_of_mem_set hv with hv | hv
  · exact h l' hl' v hv
  · cases hv; exact hw

/-- What FIXRES leaves in a slot stood there before, or is a literal. -/
theorem mem_fixSlots {b : Bool} {ops : List OperandDescriptor} {l : List (Option Operand)} {v : Operand}
    (h : some v ∈ fixSlots b ops l) : some v ∈ l ∨ ∃ x, v = .lit x := by
  induction ops generalizing l with
  | nil => exact .inl h
  | cons o rest ih =>
    rcases ih (l := fixSlot b l o) h with h | h
    · simp only [fixSlot] at h
      split at h
      · split at h
        · rcases List.mem_or_eq_of_mem_set h with h | h
          · exact .inl h
          · cases h; exact .inr ⟨_, rfl⟩
        · exact .inl h
      · exact .inl h
    · exact .inr h

/-- The operands of the returned Instruction are what FIXRES left in the slots. -/
theorem mem_of_collectSlots {l : List (Option Operand)} {ops : List Operand} (h : collectSlots l = some ops)
    {v : Operand} (hv : v ∈ ops) : some v ∈ l := by
  rw [collectSlots_eq_some.mp h]
  exact List.mem_map_of_mem hv

theorem RowEffect.shapesOk {s t : State} {i : Instr} (h : RowEffect s i t) (hs : s.shapesOk = true) :
    t.shapesOk = true := by
  obtain ⟨hslots, hres⟩ := s.shapesOk_iff.mp hs
  refine t.shapesOk_iff.mpr ?_
  cases h with
  | error => exact ⟨nofun, nofun⟩
  | opcode o d =>
    refine ⟨fun l hl v hv => ?_, hres⟩
    cases hl
    cases List.eq_of_mem_replicate hv
  | pfx | rexByte | follows => exact ⟨hslots, hres⟩
  | reg | direct => exact ⟨shapes_map_set rfl hslots, hres⟩
  | mem k o e _ _ _ _ he => exact ⟨shapes_map_set he hslots, hres⟩

theorem CallEffect.shapesOk {s t : State} (h : CallEffect s t) (hs : s.shapesOk = true) : t.shapesOk = true := by
  cases h with
  | row i t hf hfix ht => exact ht.shapesOk hs
  | truncated | reset => rfl
  | fixed d l ops hfix hd hl hc =>
    obtain ⟨hslots, -⟩ := s.shapesOk_iff.mp hs
    refine (State.shapesOk_iff _).mpr ⟨nofun, fun i hi v hv => ?_⟩
    cases hi
    rcases mem_fixSlots (mem_of_collectSlots hc hv) with hv | ⟨x, rfl⟩
    · exact hslots l hl v hv
    · rfl

theorem HostEffect.shapesOk {s t : State} (h : HostEffect s t) (hs : s.shapesOk = true) : t.shapesOk = true := by
  cases h with
  | nothing | await | setPos | load => exact hs
  | start | reset => rfl

/-- Settles O44: a memory row stores one of the six shapes, and FIXRES adds literals only. -/
theorem everyStepKeepsTheSixShapes : Obligations.EveryStepKeepsTheSixShapes := by
  intro s t hs h
  by_cases hi : s.stage = .idle
  · exact (step_next_idle hi h).shapesOk hs
  · exact (step_next_call hi h).shapesOk hs

end Sys2Proof.Machine
end

section
/-! SUPPORT. PFX is read by no rule but the PREFIX rows' own and the side output (10_state.md R36): each operation of a
call takes two states that differ in PFX alone to outcomes that differ in PFX and its half of the side output alone. -/

namespace Sys2Proof.Machine

/-! ## The states that a call leaves -/

/-- An error raised on both sides: the kinds are one, and PFX is left out of the side output. -/
theorem mapNext_raiseError_withoutPfx (s : State) (q : PrefixSet) (e : DecodeError) :
    mapNext State.withoutPfx (.next (State.raiseError { s with pfx := q } e)) =
      mapNext State.withoutPfx (.next (s.raiseError e)) :=
  congrArg Host.Outcome.next (raiseError_withoutPfx s q e)

theorem truncatedFetch_withoutPfx (s : State) (q : PrefixSet) :
    (truncatedFetch { s with pfx := q }).withoutPfx = (truncatedFetch s).withoutPfx := by
  simp only [truncatedFetch_eq]
  split <;> rfl

/-- The decoder does not see PFX. -/
theorem fetch_withPfx (s : State) (q : PrefixSet) : State.fetch { s with pfx := q } = s.fetch := rfl

/-! ## The cursor primitives carry PFX along -/

theorem skip_withPfx (s : State) (q : PrefixSet) (n : Nat) :
    State.skip { s with pfx := q } n = (s.skip n).map fun t => { t with pfx := q } := by
  simp only [State.skip]
  split <;> rfl

theorem readU8_withPfx (s : State) (q : PrefixSet) :
    State.readU8 { s with pfx := q } = s.readU8.map fun a => (a.1, { a.2 with pfx := q }) := by
  simp only [State.readU8]
  split <;> rfl

theorem readDisp_withPfx (s : State) (q : PrefixSet) (k : MemMod) :
    State.readDisp { s with pfx := q } k = (s.readDisp k).map fun a => (a.1, { a.2 with pfx := q }) := by
  cases k with
  | m0 => rfl
  | m1 => simp only [State.readDisp, State.readI8]; split <;> rfl
  | m2 => simp only [State.readDisp, State.readI32]; split <;> rfl

/-! ## The rows -/

theorem opcodeRow_withoutPfx (o : OpcBytes) (s : State) (q : PrefixSet) :
    mapNext State.withoutPfx (opcodeRow o { s with pfx := q }) = mapNext State.withoutPfx (opcodeRow o s) := by
  simp only [opcodeRow, show State.endScan { s with pfx := q } = { s.endScan with pfx := q } from rfl, skip_withPfx]
  cases s.endScan.skip o.count with
  | none => exact mapNext_raiseError_withoutPfx s.endScan q .truncated
  | some t =>
    cases o.entry s.cfg with
    | none => exact mapNext_raiseError_withoutPfx t q .unknownOpcode
    | some d => simp only [resolve, Option.map_some]; split <;> rfl

theorem pfxRow_withoutPfx (f : PfxFlag) (s : State) (q : PrefixSet) :
    mapNext State.withoutPfx (pfxRow f { s with pfx := q }) = mapNext State.withoutPfx (pfxRow f s) := by
  simp only [pfxRow, skip_withPfx]
  cases s.skip 1 with
  | none => exact mapNext_raiseError_withoutPfx s q .truncated
  | some t => rfl

theorem rexRow_withoutPfx (w r x b : Bool) (s : State) (q : PrefixSet) :
    mapNext State.withoutPfx (rexRow w r x b { s with pfx := q }) = mapNext State.withoutPfx (rexRow w r x b s) := by
  simp only [rexRow, skip_withPfx]
  cases s.skip 1 with
  | none => exact mapNext_raiseError_withoutPfx s q .truncated
  | some t => rfl

theorem regRow_withoutPfx (mod : BitVec 2) (reg rm : BitVec 3) (s : State) (q : PrefixSet) :
    mapNext State.withoutPfx (regRow mod reg rm { s with pfx := q }) =
      mapNext State.withoutPfx (regRow mod reg rm s) := by
  simp only [regRow, skip_withPfx, show State.regRole { s with pfx := q } = s.regRole from rfl]
  cases s.skip 1 with
  | none => exact mapNext_raiseError_withoutPfx s q .truncated
  | some t => cases s.regRole <;> rfl

theorem directRow_withoutPfx (rm : BitVec 3) (s : State) (q : PrefixSet) :
    mapNext State.withoutPfx (directRow rm { s with pfx := q }) = mapNext State.withoutPfx (directRow rm s) := by
  simp only [directRow, show State.opRole { s with pfx := q } = s.opRole from rfl]
  cases s.opRole <;> rfl

theorem followsRow_withoutPfx (s : State) (q : PrefixSet) :
    mapNext State.withoutPfx (followsRow { s with pfx := q }) = mapNext State.withoutPfx (followsRow s) := by
  simp only [followsRow, readU8_withPfx]
  cases s.readU8 with
  | none => exact mapNext_raiseError_withoutPfx s q .truncated
  | some a => rfl

theorem memOp_withoutPfx (k : MemMod) (f : OperandDescriptor → Option Int → MemoryExpr) (s : State) (q : PrefixSet) :
    mapNext State.withoutPfx (memOp k f { s with pfx := q }) = mapNext State.withoutPfx (memOp k f s) := by
  simp only [memOp, readDisp_withPfx, show State.opRole { s with pfx := q } = s.opRole from rfl]
  cases s.opRole with
  | none => rfl
  | some o =>
    cases s.readDisp k with
    | none => exact mapNext_raiseError_withoutPfx s q .truncated
    | some a => rfl

/-- Every row, by its format. -/
theorem exec_withoutPfx (i : Instr) (s : State) (q : PrefixSet) :
    mapNext State.withoutPfx (exec i { s with pfx := q }) = mapNext State.withoutPfx (exec i s) := by
  rcases row_cases i s with ⟨o, hr, e⟩ | ⟨f, hr, e⟩ | ⟨w, r, x, b, hr, e⟩ | ⟨mod, reg, rm, hr, e⟩ | ⟨hr, e⟩ |
    ⟨rm, hr, e⟩ | ⟨k, hr, e⟩ | ⟨k, rm, hr, e⟩ | ⟨k, idx, bs, ss, hr, e⟩ | ⟨idx, bs, ss, hr, e⟩ |
    ⟨k, idx, bs, ss, hr, hk, e⟩ <;> rw [e]
  · rw [(exec_opcodeOf (s := { s with pfx := q }) hr).1]; exact opcodeRow_withoutPfx o s q
  · rw [exec_pfx hr]; exact pfxRow_withoutPfx f s q
  · rw [exec_rexByte hr]; exact rexRow_withoutPfx w r x b s q
  · rw [exec_reg hr]; exact regRow_withoutPfx mod reg rm s q
  · rcases hr with ⟨rm, hr⟩ | ⟨k, rm, hr⟩
    · rw [exec_direct_invalid hr]; exact mapNext_raiseError_withoutPfx s q .invalidEncoding
    · rw [exec_mem_invalid hr]; exact mapNext_raiseError_withoutPfx s q .invalidEncoding
  · rw [exec_direct hr]; exact directRow_withoutPfx rm s q
  · rw [exec_follows hr]; exact followsRow_withoutPfx s q
  · rw [exec_mem hr]; exact memOp_withoutPfx k _ s q
  · rw [exec_sib hr]; exact memOp_withoutPfx k _ s q
  · rw [exec_sib_noBase hr]; exact memOp_withoutPfx .m2 _ s q
  · rw [exec_sib_base5 hr hk]; exact memOp_withoutPfx k _ s q

/-! ## The step -/

theorem fixresAndReturn_withoutPfx (s : State) (q : PrefixSet) :
    mapNext State.withoutPfx (fixresAndReturn { s with pfx := q }) =
      mapNext State.withoutPfx (fixresAndReturn s) := by
  unfold fixresAndReturn
  dsimp only [State.rexB]
  split
  · split
    · exact congrArg Host.Outcome.next (returnOk_withoutPfx s q _)
    · rfl
  · rfl

theorem callStep_withoutPfx (s : State) (q : PrefixSet) :
    mapNext State.withoutPfx (callStep { s with pfx := q }) = mapNext State.withoutPfx (callStep s) := by
  simp only [callStep, fetch_withPfx]
  split
  · exact fixresAndReturn_withoutPfx s q
  · split
    · exact exec_withoutPfx _ s q
    · exact congrArg Host.Outcome.next (truncatedFetch_withoutPfx s q)
    · rfl

/-- Settles O49: a reset and a refused start do not see PFX, and a form of the call keeps the difference. -/
theorem prefixesNeverChangeTheResult : Obligations.PrefixesNeverChangeTheResult := by
  intro s q hs
  rcases step_call_cases hs with ⟨rest, hh, e⟩ | ⟨rest, hh, e⟩ | ⟨hq, e⟩ <;> rw [e]
  · rw [step_reset (s := { s with pfx := q }) hs hh]; rfl
  · rw [step_start (s := { s with pfx := q }) hs hh]
  · rw [step_call (s := { s with pfx := q }) hs hq]; exact callStep_withoutPfx s q

end Sys2Proof.Machine
end

section
/-! SUPPORT. What a well-formed descriptor gives the slots (10_state.md R41, W1 to W5), and what FIXRES leaves in them
(45_fixed_operand.md R250, R251). -/

namespace Sys2Proof

/-! ## Well-formed descriptors -/

theorem OpcodeDescriptor.wf_iff {d : OpcodeDescriptor} {nslot : Option Nat} : d.wf nslot = true ↔
    d.w1 nslot = true ∧ d.w2 = true ∧ d.w3 = true ∧ d.w4 = true ∧ d.w5 = true := by
  simp [OpcodeDescriptor.wf, and_assoc]

/-- W1: every operand has a slot. -/
theorem OpcodeDescriptor.index_lt_of_wf {d : OpcodeDescriptor} {nslot : Option Nat} (h : d.wf nslot = true)
    {o : OperandDescriptor} (ho : o ∈ d.operands) : o.index < d.operands.length := by
  obtain ⟨h1, -⟩ := d.wf_iff.mp h
  simp only [OpcodeDescriptor.w1, Bool.and_eq_true, List.all_eq_true, decide_eq_true_eq] at h1
  obtain ⟨⟨-, hlt⟩, -⟩ := h1
  exact hlt o ho

/-- W1: no two operands have one slot. -/
theorem OpcodeDescriptor.index_nodup_of_wf {d : OpcodeDescriptor} {nslot : Option Nat} (h : d.wf nslot = true) :
    (d.operands.map OperandDescriptor.index).Nodup := by
  obtain ⟨h1, -⟩ := d.wf_iff.mp h
  simp only [OpcodeDescriptor.w1, Bool.and_eq_true, decide_eq_true_eq] at h1
  obtain ⟨-, hnodup⟩ := h1
  exact hnodup

/-- W2: without ModRM there is no role. -/
theorem OpcodeDescriptor.roles_none_of_wf {d : OpcodeDescriptor} {nslot : Option Nat} (h : d.wf nslot = true)
    (hm : d.modrm = false) : d.r = none ∧ d.m = none ∧ d.rm = none := by
  obtain ⟨-, h2, -⟩ := d.wf_iff.mp h
  simp only [OpcodeDescriptor.w2, hm, Bool.false_or, Bool.and_eq_true, Option.isNone_iff_eq_none] at h2
  obtain ⟨⟨⟨hr, hm⟩, hrm⟩, -⟩ := h2
  exact ⟨hr, hm, hrm⟩

theorem OpcodeDescriptor.deref_eq_some {d : OpcodeDescriptor} {role : Option Nat} {o : OperandDescriptor} :
    d.deref role = some o ↔ ∃ k, role = some k ∧ d.operands[k]? = some o := by
  simp [OpcodeDescriptor.deref, Option.bind_eq_some_iff]

theorem OpcodeDescriptor.mem_of_deref {d : OpcodeDescriptor} {role : Option Nat} {o : OperandDescriptor}
    (h : d.deref role = some o) : o ∈ d.operands := by
  obtain ⟨k, -, hk⟩ := d.deref_eq_some.mp h
  exact List.mem_of_getElem? hk

/-- Two roles at different places have different slots. -/
theorem OpcodeDescriptor.index_ne_of_role_ne {d : OpcodeDescriptor} {nslot : Option Nat} (h : d.wf nslot = true)
    {a b : Option Nat} {o p : OperandDescriptor} (ho : d.deref a = some o) (hp : d.deref b = some p) (hab : a ≠ b) :
    o.index ≠ p.index := by
  obtain ⟨j, rfl, hj⟩ := d.deref_eq_some.mp ho
  obtain ⟨k, rfl, hk⟩ := d.deref_eq_some.mp hp
  obtain ⟨hjl, rfl⟩ := List.getElem?_eq_some_iff.mp hj
  obtain ⟨hkl, rfl⟩ := List.getElem?_eq_some_iff.mp hk
  intro he
  refine hab (congrArg some ((d.index_nodup_of_wf h).getElem_inj_iff (hi := by simpa) (hj := by simpa) |>.mp ?_))
  simpa using he

/-- W3: no role names a FIXED operand, `op` is another element than `r`, and one of `m` and `rm` is present. -/
theorem OpcodeDescriptor.roles_of_wf {d : OpcodeDescriptor} {nslot : Option Nat} (h : d.wf nslot = true)
    (hm : d.modrm = true) :
    (∀ o, d.deref d.r = some o → o.kind ≠ .fixed) ∧ (∀ o, d.deref d.opRole = some o → o.kind ≠ .fixed) ∧
      d.opRole ≠ d.r ∧ (d.m.isSome ≠ d.rm.isSome) := by
  obtain ⟨-, -, h3, -⟩ := d.wf_iff.mp h
  simp only [OpcodeDescriptor.w3, hm, Bool.not_true, Bool.false_or, Bool.and_eq_true, bne_iff_ne] at h3
  obtain ⟨⟨⟨hr, hx⟩, hop⟩, hne⟩ := h3
  refine ⟨fun o ho hk => ?_, fun o ho hk => ?_, hne, hx⟩
  · simp [ho, hk, OperandKind.isRegister] at hr
  · simp [ho, hk, OperandKind.isRegisterOrRm] at hop

/-- W3: `m`, where present, is `op`. -/
theorem OpcodeDescriptor.opRole_of_m {d : OpcodeDescriptor} {o : OperandDescriptor} (h : d.deref d.m = some o) :
    d.deref d.opRole = some o ∧ d.m ≠ none := by
  obtain ⟨k, hk, -⟩ := d.deref_eq_some.mp h
  exact ⟨by rw [← h, OpcodeDescriptor.opRole, hk], by simp [hk]⟩

/-- W3: `rm`, where present, is `op`, as `m` is absent. -/
theorem OpcodeDescriptor.opRole_of_rm {d : OpcodeDescriptor} {o : OperandDescriptor}
    (hx : d.m.isSome ≠ d.rm.isSome) (h : d.deref d.rm = some o) : d.deref d.opRole = some o := by
  obtain ⟨k, hk, -⟩ := d.deref_eq_some.mp h
  have hm : d.m = none := by simpa [hk] using hx
  rw [← h, OpcodeDescriptor.opRole, hm]

/-- W5: a FIXED operand has a literal, and FIXRES selects one it has. -/
theorem OpcodeDescriptor.selectLiteral_of_wf {d : OpcodeDescriptor} {nslot : Option Nat} (h : d.wf nslot = true)
    {o : OperandDescriptor} (ho : o ∈ d.operands) (hk : o.kind = .fixed) (b : Bool) :
    ∃ x, Machine.selectLiteral o b = some x ∧ (o.alt0 = some x ∨ o.alt1 = some x) := by
  obtain ⟨-, -, -, -, h5⟩ := d.wf_iff.mp h
  have h0 : o.alt0.isSome = true := by simpa [hk] using List.all_eq_true.mp h5 o ho
  obtain ⟨l0, h0⟩ := Option.isSome_iff_exists.mp h0
  cases h1 : o.alt1 with
  | none => exact ⟨l0, by simp [Machine.selectLiteral, h0, h1], .inl h0⟩
  | some l1 =>
    cases b with
    | false => exact ⟨l0, by simp [Machine.selectLiteral, h0, h1], .inl h0⟩
    | true => exact ⟨l1, by simp [Machine.selectLiteral, h1], .inr rfl⟩

namespace Machine

/-! ## FIXRES -/

theorem fixSlots_cons (b : Bool) (o : OperandDescriptor) (rest : List OperandDescriptor) (l : List (Option Operand)) :
    fixSlots b (o :: rest) l = fixSlots b rest (fixSlot b l o) := rfl

/-- FIXRES writes the slot of the FIXED operand at hand and no other. -/
theorem fixSlot_getElem?_ne {b : Bool} {o : OperandDescriptor} {l : List (Option Operand)} {k : Nat}
    (h : o.kind = .fixed → o.index ≠ k) : (fixSlot b l o)[k]? = l[k]? := by
  simp only [fixSlot]
  split
  · split
    · exact List.getElem?_set_ne (h ‹_›)
    · rfl
  · rfl

/-- A slot of no FIXED operand stays as it was (R251). -/
theorem fixSlots_getElem?_ne {b : Bool} {ops : List OperandDescriptor} {l : List (Option Operand)} {k : Nat}
    (h : ∀ o ∈ ops, o.kind = .fixed → o.index ≠ k) : (fixSlots b ops l)[k]? = l[k]? := by
  induction ops generalizing l with
  | nil => rfl
  | cons o rest ih =>
    rw [fixSlots_cons, ih fun p hp => h p (List.mem_cons_of_mem _ hp), fixSlot_getElem?_ne (h o List.mem_cons_self)]

/-- The slot of a FIXED operand holds the selected literal (R250). -/
theorem fixSlots_getElem?_fixed {b : Bool} {ops : List OperandDescriptor} {l : List (Option Operand)}
    {o : OperandDescriptor} {x : Literal} (hn : (ops.map OperandDescriptor.index).Nodup) (ho : o ∈ ops)
    (hk : o.kind = .fixed) (hx : selectLiteral o b = some x) (hl : o.index < l.length) :
    (fixSlots b ops l)[o.index]? = some (some (.lit x)) := by
  induction ops generalizing l with
  | nil => cases ho
  | cons p rest ih =>
    obtain ⟨hp, hn⟩ := List.nodup_cons.mp (List.map_cons ▸ hn)
    rw [fixSlots_cons]
    rcases List.mem_cons.mp ho with rfl | ho
    · rw [fixSlots_getElem?_ne fun q hq _ he => hp (List.mem_map.mpr ⟨q, hq, he⟩)]
      simp [fixSlot, hk, hx, hl]
    · have hlen : (fixSlot b l p).length = l.length := fixSlots_length b [p] l
      exact ih hn ho (hlen ▸ hl)

/-- FIXRES leaves the slot of an operand of another kind (R251). -/
theorem fixSlots_getElem?_notFixed {b : Bool} {d : OpcodeDescriptor} {nslot : Option Nat} (h : d.wf nslot = true)
    {o : OperandDescriptor} (ho : o ∈ d.operands) (hk : o.kind ≠ .fixed) (l : List (Option Operand)) :
    (fixSlots b d.operands l)[o.index]? = l[o.index]? := by
  refine fixSlots_getElem?_ne fun p hp hpk he => hk ?_
  obtain rfl : p = o := List.inj_on_of_nodup_map (OpcodeDescriptor.index_nodup_of_wf h) hp ho he
  exact hpk

/-- FIXRES fills the slot of a FIXED operand with one of its literals (R250). -/
theorem fixSlots_getElem?_literal {b : Bool} {d : OpcodeDescriptor} {nslot : Option Nat} (h : d.wf nslot = true)
    {o : OperandDescriptor} (ho : o ∈ d.operands) (hk : o.kind = .fixed) {l : List (Option Operand)}
    (hl : l.length = d.operands.length) :
    ∃ x, (fixSlots b d.operands l)[o.index]? = some (some (.lit x)) ∧ (o.alt0 = some x ∨ o.alt1 = some x) := by
  obtain ⟨x, hx, halt⟩ := OpcodeDescriptor.selectLiteral_of_wf h ho hk b
  exact ⟨x, fixSlots_getElem?_fixed (OpcodeDescriptor.index_nodup_of_wf h) ho hk hx
    (hl ▸ OpcodeDescriptor.index_lt_of_wf h ho), halt⟩

end Machine

end Sys2Proof
end

section
/-! SUPPORT. DECODE_ONE stage by stage (46_orchestrator.md R260): what a stage leaves where it goes on; where it stops,
no Instruction is returned. Then what FIXRES finds when a call succeeds. -/

namespace Sys2Proof.Machine

/-! ## Stages in sequence -/

/-- Where the stage goes on its state has `Q`; where it stops, no Instruction is returned. -/
def Flow.Ensures (f : Flow) (Q : State → Prop) : Prop :=
  match f with
  | .go t => Q t
  | .stop r => ∀ t i, r = .next t → t.result ≠ some (.ok i)

@[simp] theorem Flow.ensures_go {s : State} {Q : State → Prop} : (Flow.go s).Ensures Q ↔ Q s := Iff.rfl

@[simp] theorem Flow.ensures_raise (s : State) (e : DecodeError) (Q : State → Prop) : (Flow.raise s e).Ensures Q := by
  intro t i h
  cases h
  simp [State.result]

@[simp] theorem Flow.ensures_refused (r : Refusal) (Q : State → Prop) : (Flow.stop (.refused r)).Ensures Q :=
  fun _ _ h => nomatch h

theorem Flow.Ensures.mono {f : Flow} {P Q : State → Prop} (h : f.Ensures P) (hpq : ∀ t, P t → Q t) : f.Ensures Q := by
  cases f with
  | go t => exact hpq t h
  | stop r => exact h

theorem Flow.Ensures.andThen {f : Flow} {k : State → Flow} {P Q : State → Prop} (h : f.Ensures P)
    (hk : ∀ t, P t → (k t).Ensures Q) : (f.andThen k).Ensures Q := by
  cases f with
  | go t => exact hk t h
  | stop r => exact h

theorem Flow.ensures_ite {c : Prop} [Decidable c] {f g : Flow} {Q : State → Prop} (hf : c → f.Ensures Q)
    (hg : ¬ c → g.Ensures Q) : (if c then f else g).Ensures Q := by
  split
  · exact hf ‹_›
  · exact hg ‹_›

/-! ## PFXSCAN, REXDEC and OPCRES -/

theorem State.peek_of_lt {s : State} (h : s.pos < s.len) : s.peek = some (s.buf.read s.pos) := if_pos h

theorem State.peek_of_le {s : State} (h : s.len ≤ s.pos) : s.peek = none := if_neg (by omega)

theorem State.readU8_of_lt {s : State} (h : s.pos < s.len) :
    s.readU8 = some (s.buf.read s.pos, { s with pos := s.pos + 1 }) := if_pos h

theorem State.readU8_of_le {s : State} (h : s.len ≤ s.pos) : s.readU8 = none := if_neg (by omega)

/-- PFXSCAN stops at the first byte that PREFIX_LIST does not have (40_prefix_scanner.md R140). -/
theorem pfxScan_ensures (n : Nat) (s : State) (hn : s.len - s.pos < n) :
    (pfxScan n s).Ensures fun t =>
      ∃ m q, s.prefixBytesAre m ∧ s.pos + m < s.len ∧ t = { s with pfx := q, pos := s.pos + m } := by
  induction n generalizing s with
  | zero => omega
  | succ n ih =>
    by_cases hl : s.pos < s.len
    · cases hf : s.cfg.prefixOf (s.buf.read s.pos) with
      | none =>
        simp only [pfxScan, State.peek_of_lt hl, hf, Flow.ensures_go]
        exact ⟨0, s.pfx, ⟨fun k hk => by omega, hf⟩, hl, rfl⟩
      | some f =>
        simp only [pfxScan, State.peek_of_lt hl, hf]
        refine (ih { s with pfx := s.pfx.set f, pos := s.pos + 1 } (by dsimp only; omega)).mono ?_
        rintro t ⟨m, q, ⟨hpre, hend⟩, hm, rfl⟩
        dsimp only at hpre hend hm
        rw [Nat.add_assoc, Nat.add_comm 1] at hend
        refine ⟨m + 1, q, ⟨fun k hk => ?_, hend⟩, by omega, by simp [Nat.add_assoc, Nat.add_comm 1]⟩
        cases k with
        | zero => simp [hf]
        | succ k => rw [← Nat.add_assoc, Nat.add_right_comm]; exact hpre k (by omega)
    · simp [pfxScan, State.peek_of_le (Nat.not_lt.mp hl)]

/-- REXDEC (41_rex_decoder.md R160). -/
theorem rexDec_ensures (s : State) :
    (rexDec s).Ensures fun t => s.pos < s.len ∧ t = { s with
      rex := s.rexAt s.pos, pos := s.pos + (if (s.rexAt s.pos).isSome then 1 else 0), stage := .opcode } := by
  by_cases hl : s.pos < s.len
  · have hrex : (s.buf.read s.pos).extractLsb' 4 4 = 4#4 ↔ (s.buf.read s.pos).toNat / 16 = 4 := by
      rw [← isRexByte_iff, isRexByte, beq_iff_eq]
    simp only [rexDec, State.peek_of_lt hl, hrex, State.rexAt]
    split <;> exact ⟨hl, rfl⟩
  · simp [rexDec, State.peek_of_le (Nat.not_lt.mp hl)]

/-- The state OPCRES leaves when the descriptor is `d`. -/
def State.resolvedWith (s : State) (d : OpcodeDescriptor) : State :=
  { s with
    pos := s.pos + (s.opcodeAt s.pos).count, opc := some (s.opcodeAt s.pos), desc := some d
    slots := some (emptySlots d.operands.length) }

/-- What OPCRES leaves where it goes on: the opcode bytes at the cursor select the cell of a well-formed `d`. -/
def State.Resolves (s t : State) : Prop :=
  ∃ d, cellOf s.cfg (s.opcodeAt s.pos) = some d ∧ d.wf s.cfg.nslot = true ∧
    s.pos + (s.opcodeAt s.pos).count ≤ s.len ∧ t = s.resolvedWith d

/-- The answer of the cell that the opcode bytes at the cursor select is taken, their bytes consumed. -/
theorem takeEntry_ensures {s : State} {o : OpcBytes} (ho : s.opcodeAt s.pos = o) (hp : s.pos + o.count ≤ s.len) :
    (takeEntry (cellOf s.cfg o) o { s with pos := s.pos + o.count }).Ensures s.Resolves := by
  subst ho
  cases he : cellOf s.cfg (s.opcodeAt s.pos) with
  | none => simp [takeEntry]
  | some d =>
    simp only [takeEntry]
    split
    · exact ⟨d, he, ‹_›, hp, rfl⟩
    · simp

/-- OPCRES (42_opcode_resolver.md R170), by the shapes of an opcode. -/
theorem opcRes_ensures (s : State) : (opcRes s).Ensures s.Resolves := by
  unfold opcRes
  by_cases h1 : s.pos < s.len
  swap; · simp [State.readU8_of_le (Nat.not_lt.mp h1)]
  simp only [State.readU8_of_lt h1]
  by_cases hesc : s.buf.read s.pos ≠ s.cfg.esc
  · rw [if_pos hesc]
    exact takeEntry_ensures (o := .one _) (if_pos hesc) h1
  rw [if_neg hesc]
  by_cases h2 : s.pos + 1 < s.len
  swap; · simp [State.readU8_of_le (s := { s with pos := s.pos + 1 }) (Nat.not_lt.mp h2)]
  simp only [State.readU8_of_lt (s := { s with pos := s.pos + 1 }) h2]
  by_cases hA : s.buf.read (s.pos + 1) = s.cfg.selA
  · rw [if_pos hA]
    by_cases h3 : s.pos + 2 < s.len
    swap; · simp [State.readU8_of_le (s := { s with pos := s.pos + 1 + 1 }) (Nat.not_lt.mp h3)]
    simp only [State.readU8_of_lt (s := { s with pos := s.pos + 1 + 1 }) h3]
    exact takeEntry_ensures (o := .threeA _ _ _) (by simp only [State.opcodeAt, if_neg hesc, if_pos hA]) h3
  rw [if_neg hA]
  by_cases hB : s.buf.read (s.pos + 1) = s.cfg.selB
  · rw [if_pos hB]
    by_cases h3 : s.pos + 2 < s.len
    swap; · simp [State.readU8_of_le (s := { s with pos := s.pos + 1 + 1 }) (Nat.not_lt.mp h3)]
    simp only [State.readU8_of_lt (s := { s with pos := s.pos + 1 + 1 }) h3]
    exact takeEntry_ensures (o := .threeB _ _ _) (by simp only [State.opcodeAt, if_neg hesc, if_neg hA, if_pos hB]) h3
  rw [if_neg hB]
  exact takeEntry_ensures (o := .two _ _) (by simp only [State.opcodeAt, if_neg hesc, if_neg hA, if_neg hB]) h2

/-! ## The operands of AMODE -/

/-- Every register an operand names has the width of its class under REX.w (10_state.md R28). -/
def Operand.WidthsBy (rexW : Bool) (v : Operand) : Prop :=
  ∀ d ∈ v.designators, d.width = widthOf d.cls rexW

theorem regdes_width (s : State) (kind : OperandKind) (idx : BitVec 4) :
    (s.regdes kind idx).width = widthOf (s.regdes kind idx).cls s.rexW := rfl

theorem indexTerm_width {s : State} {kind : OperandKind} {idx : BitVec 3} {ss : BitVec 2} {t : IndexTerm}
    (h : s.indexTerm kind idx ss = some t) : t.reg.width = widthOf t.reg.cls s.rexW := by
  unfold State.indexTerm at h
  split at h
  · cases h
  · cases h; rfl

theorem widthsBy_reg (s : State) (kind : OperandKind) (raw : BitVec 3) (bit : Bool) :
    Operand.WidthsBy s.rexW (.reg (s.registerOf kind raw bit)) := by
  rw [← regdes_ext4]
  simp [Operand.WidthsBy, Operand.designators, regdes_width]

theorem widthsBy_lit (w : Bool) (l : Literal) : Operand.WidthsBy w (.lit l) := by
  simp [Operand.WidthsBy, Operand.designators]

/-- A memory expression names its base and its index register. -/
theorem widthsBy_mem {w : Bool} {e : MemoryExpr} (hb : ∀ d, e.base = some d → d.width = widthOf d.cls w)
    (hi : ∀ t, e.index = some t → t.reg.width = widthOf t.reg.cls w) : Operand.WidthsBy w (.mem e) := by
  intro d hd
  simp only [Operand.designators, List.mem_append, Option.mem_toList, Option.map_eq_some_iff] at hd
  rcases hd with hd | ⟨t, ht, rfl⟩
  · exact hb d hd
  · exact hi t ht

/-- What AMODE stores for the rm field: a register with `mod` 3, which `m` rules out, else a memory expression
(43_addressing_mode.md R193 to R199). -/
structure State.RmOperand (s : State) (d : OpcodeDescriptor) (op : OperandDescriptor) (v : ModRM) (x : Operand) :
    Prop where
  reg : v.mod = 3#2 → d.m = none ∧ x = .reg (s.registerOf op.kind v.rm s.rexB)
  mem : v.mod ≠ 3#2 → ∃ e, x = .mem e
  widths : x.WidthsBy s.rexW

/-- A memory operand whose base and index registers have the width of REX.w. -/
theorem State.RmOperand.ofMem {s : State} {d : OpcodeDescriptor} {op : OperandDescriptor} {v : ModRM} {e : MemoryExpr}
    (hv : v.mod ≠ 3#2) (hb : ∀ r, e.base = some r → r.width = widthOf r.cls s.rexW)
    (hi : ∀ t, e.index = some t → t.reg.width = widthOf t.reg.cls s.rexW) : s.RmOperand d op v (.mem e) :=
  ⟨fun h => absurd h hv, fun _ => ⟨e, rfl⟩, widthsBy_mem hb hi⟩

/-- The bytes after a ModRM byte at the cursor: SIB and displacement (30_encoding.md R109). -/
def State.rmBytes (s : State) (v : ModRM) : Nat :=
  (if v.hasSib then 1 else 0) + dispLength v (base5Test s.cfg (Sib.ofByte (s.buf.read s.pos)).bs s.rexB)

/-- What the rm part of AMODE leaves where it goes on: its bytes consumed and `op`'s slot written. -/
def State.RmStored (s : State) (d : OpcodeDescriptor) (op : OperandDescriptor) (v : ModRM) (t : State) : Prop :=
  ∃ sb x, s.RmOperand d op v x ∧ (s.pos ≤ s.len → s.pos + s.rmBytes v ≤ s.len) ∧ t = { s with
    pos := s.pos + s.rmBytes v, sib := sb, slots := s.slots.map fun l => l.set op.index (some x) }

theorem storeAndGo_ensures {s : State} {d : OpcodeDescriptor} {op : OperandDescriptor} {v : ModRM} {x : Operand}
    {p : Nat} {sb : Option Sib} (hx : s.RmOperand d op v x) (hp : p = s.pos + s.rmBytes v)
    (hl : s.pos ≤ s.len → p ≤ s.len) :
    (storeAndGo op x { s with pos := p, sib := sb }).Ensures (s.RmStored d op v) := by
  subst hp
  exact ⟨sb, x, hx, hl, rfl⟩

theorem field_eq_zero {k : MemMod} : k.field = 0#2 ↔ k = .m0 := by
  cases k <;> decide

/-- The displacement of `mod` 1 or 2 is read, or Truncated is raised. -/
theorem withDisp_ensures {k : MemMod} (hk : k ≠ .m0) {s : State} {f : Int → State → Flow} {Q : State → Prop}
    (h : ∀ x, s.pos + k.dispBytes ≤ s.len → (f x { s with pos := s.pos + k.dispBytes }).Ensures Q) :
    (withDisp k.field s f).Ensures Q := by
  unfold withDisp
  cases k with
  | m0 => contradiction
  | m1 =>
    simp only [MemMod.field, if_true, State.readI8]
    by_cases hp : s.pos + 1 ≤ s.len
    · simp only [if_pos hp]; exact h _ hp
    · simp [hp]
  | m2 =>
    simp only [MemMod.field, State.readI32]
    by_cases hp : s.pos + 4 ≤ s.len
    · simp only [if_pos hp]; exact h _ hp
    · simp [hp]

/-- The base-5 test of the pseudocode is the one of the decoder (44_sib.md R225). -/
theorem base5Test_eq (p : Params) (bs : BitVec 3) (b : Bool) :
    base5Test p bs b = match p.base5 with
      | .extended => decide (ext4 bs b = 5#4)
      | .raw => decide (bs = 5#3) := by
  have hext : ∀ (bs : BitVec 3) (b : Bool), (bs == 5#3 && !b) = decide (ext4 bs b = 5#4) := by decide
  cases h : p.base5 with
  | extended => simp only [base5Test, h, hext]
  | raw => simp only [base5Test, h, beq_eq_decide]

/-- Displacement bytes by the memory form: the base-5 row with `mod` 0 has four (30_encoding.md R109). -/
theorem dispLength_field {v : ModRM} {k : MemMod} (hk : v.mod = k.field) (b : Bool) :
    dispLength v b = if k = .m0 ∧ v.hasSib = true ∧ b = true then 4 else k.dispBytes := by
  cases k <;> simp [dispLength, hk, MemMod.field, MemMod.dispBytes]

/-- A memory operand with a displacement by `mod` 1 or 2, read at `p` after the SIB byte, if any. -/
theorem withDisp_storeMem_ensures {s : State} {d : OpcodeDescriptor} {op : OperandDescriptor} {v : ModRM} {k : MemMod}
    {e : Int → MemoryExpr} {p : Nat} {sb : Option Sib} (hk : v.mod = k.field) (h0 : ¬ v.mod = 0#2)
    (he : ∀ x, s.RmOperand d op v (.mem (e x))) (hp : p + k.dispBytes = s.pos + s.rmBytes v) :
    (withDisp v.mod { s with pos := p, sib := sb } fun x u => storeAndGo op (.mem (e x)) u).Ensures
      (s.RmStored d op v) := by
  have hk0 : k ≠ .m0 := fun h => h0 (hk.trans (field_eq_zero.mpr h))
  rw [hk]
  exact withDisp_ensures hk0 fun x hl => storeAndGo_ensures (he x) hp fun _ => hl

/-- The SIB path (44_sib.md R220 to R227). -/
theorem amodeSib_ensures {s : State} {d : OpcodeDescriptor} {op : OperandDescriptor} {v : ModRM} {k : MemMod}
    (hk : v.mod = k.field) (hr : v.rm = 4#3) : (amodeSib op v.mod s).Ensures (s.RmStored d op v) := by
  have hv : v.mod ≠ 3#2 := by simp [hk]
  have hsib : v.hasSib = true := by simp [ModRM.hasSib, hv, hr]
  have hbytes : s.rmBytes v = 1 + dispLength v (base5Test s.cfg (Sib.ofByte (s.buf.read s.pos)).bs s.rexB) := by
    simp [State.rmBytes, hsib]
  rw [dispLength_field hk] at hbytes
  unfold amodeSib
  by_cases hl : s.pos < s.len
  swap; · simp [State.readU8_of_le (Nat.not_lt.mp hl)]
  simp only [State.readU8_of_lt hl]
  refine Flow.ensures_ite (fun h => ?_) (fun h => ?_)
  · have hb : base5Test s.cfg (Sib.ofByte (s.buf.read s.pos)).bs s.rexB = true := (base5Test_eq _ _ _).trans h
    refine Flow.ensures_ite (fun hm => ?_) (fun hm => ?_)
    · obtain rfl : k = .m0 := field_eq_zero.mp (hk ▸ hm)
      simp only [State.readI32]
      by_cases hl4 : s.pos + 1 + 4 ≤ s.len
      swap; · simp [hl4]
      simp only [if_pos hl4]
      exact storeAndGo_ensures (.ofMem hv nofun fun t => indexTerm_width) (by simp [hbytes, hb, hsib]) fun _ => hl4
    · exact withDisp_storeMem_ensures hk hm (fun x => .ofMem hv (by rintro r ⟨⟩; rfl) fun t => indexTerm_width)
        (by simp [hbytes, ← field_eq_zero, ← hk, hm, Nat.add_assoc])
  · have hb : base5Test s.cfg (Sib.ofByte (s.buf.read s.pos)).bs s.rexB ≠ true :=
      fun hb => h ((base5Test_eq _ _ _).symm.trans hb)
    refine Flow.ensures_ite (fun hm => ?_) (fun hm => ?_)
    · obtain rfl : k = .m0 := field_eq_zero.mp (hk ▸ hm)
      exact storeAndGo_ensures (.ofMem hv (by rintro r ⟨⟩; rfl) fun t => indexTerm_width)
        (by simp [hbytes, hb, MemMod.dispBytes]) fun _ => hl
    · exact withDisp_storeMem_ensures hk hm (fun x => .ofMem hv (by rintro r ⟨⟩; rfl) fun t => indexTerm_width)
        (by simp [hbytes, hb, Nat.add_assoc])

/-- The rm operand, in the order of the pseudocode: SIB, register, base register (43_addressing_mode.md R194). -/
theorem amodeRm_ensures (s : State) (d : OpcodeDescriptor) (op : OperandDescriptor) (v : ModRM) :
    (amodeRm d op v s).Ensures (s.RmStored d op v) := by
  unfold amodeRm
  refine Flow.ensures_ite (fun h => ?_) (fun h => ?_)
  · obtain ⟨k, hk⟩ := (mod_cases v.mod).resolve_left h.1
    exact amodeSib_ensures hk h.2
  refine Flow.ensures_ite (fun hm => ?_) (fun hm => ?_)
  · refine Flow.ensures_ite (fun _ => Flow.ensures_raise _ _ _) (fun hd => ?_)
    have hx : s.RmOperand d op v (.reg (s.registerOf op.kind v.rm s.rexB)) :=
      ⟨fun _ => ⟨by simpa using hd, rfl⟩, fun hv => absurd hm hv, widthsBy_reg s _ _ _⟩
    rw [regdes_ext4]
    exact storeAndGo_ensures (p := s.pos) (sb := s.sib) hx (by simp [State.rmBytes, ModRM.hasSib, dispLength, hm]) id
  obtain ⟨k, hk⟩ := (mod_cases v.mod).resolve_left hm
  have hsib : v.hasSib = false := by simpa [ModRM.hasSib, hm] using h
  have hbytes : s.rmBytes v = k.dispBytes := by simp [State.rmBytes, dispLength_field hk, hsib]
  refine Flow.ensures_ite (fun _ => Flow.ensures_raise _ _ _) (fun _ => ?_)
  refine Flow.ensures_ite (fun h0 => ?_) (fun h0 => ?_)
  · obtain rfl : k = .m0 := field_eq_zero.mp (hk ▸ h0)
    exact storeAndGo_ensures (p := s.pos) (sb := s.sib) (.ofMem hm (by rintro r ⟨⟩; rfl) nofun)
      (by simp [hbytes, MemMod.dispBytes]) id
  · exact withDisp_storeMem_ensures (p := s.pos) (sb := s.sib) hk h0 (fun x => .ofMem hm (by rintro r ⟨⟩; rfl) nofun)
      (by rw [hbytes])

/-! ## AMODE -/

/-- The state at the rm operand: the ModRM byte consumed and the reg operand stored (43_addressing_mode.md R191). -/
def State.regStored (s : State) (r : OperandDescriptor) (v : ModRM) : State :=
  { s with
    pos := s.pos + 1, modrm := some v
    slots := s.slots.map fun l => l.set r.index (some (.reg (s.registerOf r.kind v.reg s.rexR))) }

/-- AMODE (43_addressing_mode.md R190 to R193): nothing without ModRM, else the reg operand and the rm operand of the
byte at the cursor. -/
theorem amode_ensures {s : State} {d : OpcodeDescriptor} (hd : s.desc = some d) :
    (amode s).Ensures fun t =>
      (d.modrm = false ∧ t = s) ∨
      (d.modrm = true ∧ s.pos < s.len ∧ ∃ r op, d.deref d.r = some r ∧ d.deref d.opRole = some op ∧
        (s.regStored r (ModRM.ofByte (s.buf.read s.pos))).RmStored d op (ModRM.ofByte (s.buf.read s.pos)) t) := by
  simp only [amode, hd]
  refine Flow.ensures_ite (fun hm => ?_) (fun hm => .inl ⟨by simpa using hm, rfl⟩)
  by_cases hl : s.pos < s.len
  swap; · simp [State.readU8_of_le (Nat.not_lt.mp hl)]
  simp only [State.readU8_of_lt hl, regdes_ext4]
  cases hr : d.deref d.r with
  | none => simp
  | some r =>
    cases hop : d.deref d.opRole with
    | none => simp
    | some op => exact (amodeRm_ensures _ d op _).mono fun t ht => .inr ⟨hm, hl, r, op, rfl, rfl, ht⟩

/-! ## DECODE_ONE -/

/-- Where the opcode begins after `n` PREFIX bytes: behind the REX byte, if there is one. -/
def State.opcodeStart (s : State) (n : Nat) : Nat :=
  s.pos + n + if (s.rexAt (s.pos + n)).isSome then 1 else 0

/-- Where the ModRM byte stands after `n` PREFIX bytes: behind the opcode bytes. -/
def State.modrmStart (s : State) (n : Nat) : Nat :=
  s.opcodeStart n + (s.opcodeAt (s.opcodeStart n)).count

/-- The ModRM byte after `n` PREFIX bytes, REX and the opcode. -/
def State.modrmAt (s : State) (n : Nat) : ModRM := ModRM.ofByte (s.buf.read (s.modrmStart n))

/-- The slots AMODE leaves: all empty, or with ModRM the registers and memory expressions of its two roles. -/
def State.SlotsOf (u : State) (d : OpcodeDescriptor) (v : ModRM) (l : List (Option Operand)) : Prop :=
  (d.modrm = false ∧ l = emptySlots d.operands.length) ∨
  (d.modrm = true ∧ ∃ r op x, d.deref d.r = some r ∧ d.deref d.opRole = some op ∧ u.RmOperand d op v x ∧
    l = ((emptySlots d.operands.length).set r.index (some (.reg (u.registerOf r.kind v.reg u.rexR)))).set op.index
      (some x))

/-- What FIXRES finds, `u`, when the call started at `s` has come so far: `n` prefixes and the descriptor `d`. -/
structure State.Decoded (s : State) (n : Nat) (d : OpcodeDescriptor) (u : State) : Prop where
  prefixes : s.prefixBytesAre n
  cell : cellOf s.cfg (s.opcodeAt (s.opcodeStart n)) = some d
  wf : d.wf s.cfg.nslot = true
  rex : u.rex = s.rexAt (s.pos + n)
  desc : u.desc = some d
  slots : ∃ l, u.slots = some l ∧ u.SlotsOf d (s.modrmAt n) l
  pos : u.pos = s.modrmStart n + if d.modrm then 1 + ((if (s.modrmAt n).hasSib then 1 else 0) +
    dispLength (s.modrmAt n) (base5Test s.cfg (Sib.ofByte (s.buf.read (s.modrmStart n + 1))).bs u.rexB)) else 0
  pos_le : u.pos ≤ s.len

/-- The state of a call whose `n` prefixes and REX are read. -/
def State.scanned (s : State) (n : Nat) (q : PrefixSet) : State :=
  { s.beginCall with pfx := q, rex := s.rexAt (s.pos + n), pos := s.opcodeStart n, stage := .opcode }

theorem scanAndRex_ensures (s : State) :
    ((pfxScan (s.len - s.pos + 1) s.beginCall).andThen rexDec).Ensures fun t =>
      ∃ n q, s.prefixBytesAre n ∧ t = s.scanned n q :=
  (pfxScan_ensures _ s.beginCall (Nat.lt_succ_self _)).andThen fun _ ⟨n, q, hpre, _, ht⟩ =>
    ht ▸ (rexDec_ensures _).mono fun _ ⟨_, hu⟩ => ⟨n, q, hpre, hu⟩

/-- AMODE after OPCRES leaves what FIXRES finds. -/
theorem amode_decoded {s : State} {n : Nat} {q : PrefixSet} {d : OpcodeDescriptor} (hpre : s.prefixBytesAre n)
    (hcell : cellOf s.cfg (s.opcodeAt (s.opcodeStart n)) = some d) (hwf : d.wf s.cfg.nslot = true)
    (hlen : s.modrmStart n ≤ s.len) :
    (amode ((s.scanned n q).resolvedWith d)).Ensures fun u => s.Decoded n d u := by
  refine (amode_ensures rfl).mono fun u hu => ?_
  rcases hu with ⟨hm, rfl⟩ | ⟨hm, hl, r, op, hr, hop, sb, x, hx, hle, rfl⟩
  · exact ⟨hpre, hcell, hwf, rfl, rfl, ⟨_, rfl, .inl ⟨hm, rfl⟩⟩, by simp [hm]; rfl, hlen⟩
  · exact ⟨hpre, hcell, hwf, rfl, rfl, ⟨_, rfl, .inr ⟨hm, r, op, x, hr, hop, ⟨hx.reg, hx.mem, hx.widths⟩, rfl⟩⟩,
      by rw [if_pos hm, ← Nat.add_assoc]; rfl, hle hl⟩

/-- The four stages before FIXRES. -/
theorem stages_ensures (s : State) :
    ((((pfxScan (s.len - s.pos + 1) s.beginCall).andThen rexDec).andThen opcRes).andThen amode).Ensures fun u =>
      ∃ n d, s.Decoded n d u := by
  have hopc : (((pfxScan (s.len - s.pos + 1) s.beginCall).andThen rexDec).andThen opcRes).Ensures fun t =>
      ∃ n q, s.prefixBytesAre n ∧ (s.scanned n q).Resolves t :=
    (scanAndRex_ensures s).andThen fun _ ⟨n, q, hpre, ht⟩ => ht ▸ (opcRes_ensures _).mono fun _ hu => ⟨n, q, hpre, hu⟩
  exact hopc.andThen fun _ ⟨n, q, hpre, d, hcell, hwf, hlen, ht⟩ =>
    ht ▸ (amode_decoded hpre hcell hwf hlen).mono fun _ hu => ⟨n, d, hu⟩

/-- A call that returns an Instruction has gone through all its stages to FIXRES (46_orchestrator.md R260). -/
theorem decodeOne_ok {s t : State} {i : Instruction} (h : decodeOne s = .next t) (hi : t.result = some (.ok i)) :
    ∃ n d u, s.Decoded n d u ∧ fixresAndReturn u = .next t := by
  have hstages := stages_ensures s
  simp only [decodeOne, State.beginCall_len, State.beginCall_pos] at h
  split at h
  · rename_i u hgo
    rw [hgo] at hstages
    obtain ⟨n, d, hu⟩ := hstages
    exact ⟨n, d, u, hu, h⟩
  · rename_i r hstop
    rw [hstop] at hstages
    exact absurd hi (hstages t i h)

/-- The Instruction of a successful call, from the slots FIXRES leaves. -/
theorem decodeOne_ok_slots {s t : State} {i : Instruction} (h : decodeOne s = .next t)
    (hi : t.result = some (.ok i)) :
    ∃ n d u l, s.Decoded n d u ∧ u.SlotsOf d (s.modrmAt n) l ∧ t = u.returnOk i ∧ i.tag = d.tag ∧
      fixSlots u.rexB d.operands l = i.operands.map some := by
  obtain ⟨n, d, u, hu, hfix⟩ := decodeOne_ok h hi
  obtain ⟨d', l, ops, hd, hl, hc, rfl⟩ := fixresAndReturn_next hfix
  obtain rfl : d = d' := Option.some.inj (hu.desc.symm.trans hd)
  obtain ⟨l', hl', hslots⟩ := hu.slots
  obtain rfl : l' = l := Option.some.inj (hl'.symm.trans hl)
  obtain rfl : { tag := d.tag, operands := ops } = i := by simpa [State.result] using hi
  exact ⟨n, d, u, l', hu, hslots, rfl, rfl, collectSlots_eq_some.mp hc⟩

end Sys2Proof.Machine
end

section
/-! SUPPORT. The Instruction a successful call returns fits its descriptor: the operands AMODE stored and the literals
of FIXRES, and nothing else (10_state.md R28, R44, R45). -/

namespace Sys2Proof.Machine

/-- AMODE fills a slot with the reg operand or the rm operand, so every register in a slot has REX.w's width. -/
theorem State.SlotsOf.widths {u : State} {d : OpcodeDescriptor} {v : ModRM} {l : List (Option Operand)}
    (h : u.SlotsOf d v l) {x : Operand} (hx : some x ∈ l) : x.WidthsBy u.rexW := by
  rcases h with ⟨-, rfl⟩ | ⟨-, r, op, y, -, -, hy, rfl⟩
  · cases List.eq_of_mem_replicate hx
  rcases List.mem_or_eq_of_mem_set hx with hx | hx
  · rcases List.mem_or_eq_of_mem_set hx with hx | hx
    · cases List.eq_of_mem_replicate hx
    · cases hx
      exact widthsBy_reg u _ _ _
  · cases hx
    exact hy.widths

/-- Settles O57: the reg operand, the rm operand and the literals are all an Instruction holds. -/
theorem oneWidthForEveryGeneralRegister : Obligations.OneWidthForEveryGeneralRegister := by
  intro s t i p h hi hp v hv e he
  obtain ⟨n, d, u, l, hu, hslots, rfl, -, hfix⟩ := decodeOne_ok_slots h hi
  have hw : p.w = u.rexW := by
    simp only [State.sidePort, State.returnOk_out, Option.bind_some, sideNow_eq] at hp
    split at hp
    · cases hp
    · cases hp; rfl
  have hwidths : v.WidthsBy u.rexW := by
    rcases mem_fixSlots (hfix ▸ List.mem_map_of_mem hv) with hmem | ⟨x, rfl⟩
    · exact hslots.widths hmem
    · exact widthsBy_lit _ x
  rw [hwidths e he, hw]
  cases e.cls <;> rfl

/-- Every slot FIXRES leaves filled is an operand of the Instruction. -/
theorem operand_of_slot {l : List (Option Operand)} {ops : List Operand} {k : Nat} {v : Operand}
    (h : l = ops.map some) (hv : l[k]? = some (some v)) : ops[k]? = some v := by
  subst h
  simpa using hv

theorem State.SlotsOf.length_eq {u : State} {d : OpcodeDescriptor} {v : ModRM} {l : List (Option Operand)}
    (h : u.SlotsOf d v l) : l.length = d.operands.length := by
  rcases h with ⟨-, rfl⟩ | ⟨-, r, op, x, -, -, -, rfl⟩ <;> simp [emptySlots]

/-- The slots of the two roles: the register of the reg field, and the rm operand. -/
theorem State.SlotsOf.roles {u : State} {d : OpcodeDescriptor} {v : ModRM} {l : List (Option Operand)}
    {nslot : Option Nat} (h : u.SlotsOf d v l) (hwf : d.wf nslot = true) (hm : d.modrm = true) :
    (∀ o, d.deref d.r = some o → l[o.index]? = some (some (.reg (u.registerOf o.kind v.reg u.rexR)))) ∧
    (∀ o, d.deref d.opRole = some o → ∃ x, u.RmOperand d o v x ∧ l[o.index]? = some (some x)) := by
  rcases h with ⟨hm', -⟩ | ⟨-, r, op, x, hr, hop, hx, rfl⟩
  · rw [hm] at hm'; cases hm'
  obtain ⟨-, -, hne, -⟩ := d.roles_of_wf hwf hm
  have hri := d.index_lt_of_wf hwf (d.mem_of_deref hr)
  have hopi := d.index_lt_of_wf hwf (d.mem_of_deref hop)
  refine ⟨fun o ho => ?_, fun o ho => ?_⟩
  · obtain rfl : r = o := Option.some.inj (hr.symm.trans ho)
    rw [List.getElem?_set_ne (d.index_ne_of_role_ne hwf hop hr hne)]
    simp [emptySlots, hri]
  · obtain rfl : op = o := Option.some.inj (hop.symm.trans ho)
    exact ⟨x, hx, by simp [emptySlots, hopi]⟩

/-- A descriptor with an operand in a role has ModRM. -/
theorem modrm_of_role {d : OpcodeDescriptor} {nslot : Option Nat} (hwf : d.wf nslot = true) {role : Option Nat}
    {o : OperandDescriptor} (hrole : role = d.r ∨ role = d.m ∨ role = d.rm) (ho : d.deref role = some o) :
    d.modrm = true := by
  by_contra hm
  obtain ⟨hr, hm, hrm⟩ := d.roles_none_of_wf hwf (by simpa using hm)
  obtain ⟨k, hk, -⟩ := d.deref_eq_some.mp ho
  rw [hr, hm, hrm] at hrole
  simp [hk] at hrole

/-- The operands of the two roles in the Instruction. -/
theorem State.SlotsOf.operands {u : State} {d : OpcodeDescriptor} {v : ModRM} {l : List (Option Operand)}
    {nslot : Option Nat} {ops : List Operand} (h : u.SlotsOf d v l) (hwf : d.wf nslot = true) (hm : d.modrm = true)
    (hfix : fixSlots u.rexB d.operands l = ops.map some) :
    (∀ o, d.deref d.r = some o → ops[o.index]? = some (.reg (u.registerOf o.kind v.reg u.rexR))) ∧
    (∀ o, d.deref d.opRole = some o → ∃ x, u.RmOperand d o v x ∧ ops[o.index]? = some x) := by
  obtain ⟨hr, hop⟩ := h.roles hwf hm
  obtain ⟨hrk, hopk, -, -⟩ := d.roles_of_wf hwf hm
  refine ⟨fun o ho => operand_of_slot hfix ?_, fun o ho => ?_⟩
  · rw [fixSlots_getElem?_notFixed hwf (d.mem_of_deref ho) (hrk o ho), hr o ho]
  · obtain ⟨x, hx, hl⟩ := hop o ho
    exact ⟨x, hx, operand_of_slot hfix (by
      rw [fixSlots_getElem?_notFixed hwf (d.mem_of_deref ho) (hopk o ho), hl])⟩

/-- The register of a field is read from REX alone. -/
theorem registerOf_congr {s u : State} (h : u.rex = s.rex) (kind : OperandKind) (raw : BitVec 3) (bit : Bool) :
    u.registerOf kind raw bit = s.registerOf kind raw bit := by
  simp only [← regdes_ext4, State.regdes, State.rexW, h]

/-- Settles O56: the slots AMODE filled stay through FIXRES, which fills the FIXED ones. -/
theorem resultFitsItsDescriptor : Obligations.ResultFitsItsDescriptor := by
  intro s t i h hi
  obtain ⟨n, d, u, l, hu, hslots, -, htag, hfix⟩ := decodeOne_ok_slots h hi
  have hreg := registerOf_congr (s := { s with rex := s.rexAt (s.pos + n) }) (u := u) hu.rex
  have hlen : i.operands.length = d.operands.length := by
    rw [← hslots.length_eq, ← fixSlots_length u.rexB d.operands l, hfix, List.length_map]
  refine ⟨n, d, hu.prefixes, hu.cell, hu.wf, htag, hlen, fun o ho => ?_, fun o ho => ?_, fun o ho => ?_,
    fun o ho hk => ?_⟩
  · obtain ⟨hr, -⟩ := hslots.operands hu.wf (modrm_of_role hu.wf (.inl rfl) ho) hfix
    rw [hr o ho, hreg, State.rexR, hu.rex]
    rfl
  · obtain ⟨-, hop⟩ := hslots.operands hu.wf (modrm_of_role hu.wf (.inr (.inl rfl)) ho) hfix
    obtain ⟨hopm, hm⟩ := d.opRole_of_m ho
    obtain ⟨x, hx, hxs⟩ := hop o hopm
    obtain ⟨e, rfl⟩ := hx.mem fun h3 => hm (hx.reg h3).1
    exact ⟨e, hxs⟩
  · have hm := modrm_of_role hu.wf (.inr (.inr rfl)) ho
    obtain ⟨-, hop⟩ := hslots.operands hu.wf hm hfix
    obtain ⟨-, -, -, hone⟩ := d.roles_of_wf hu.wf hm
    obtain ⟨x, hx, hxs⟩ := hop o (d.opRole_of_rm hone ho)
    refine ⟨fun h3 => ?_, fun h3 => ?_⟩
    · obtain ⟨-, rfl⟩ := hx.reg h3
      rw [hxs, hreg, State.rexB, hu.rex]
      rfl
    · obtain ⟨e, rfl⟩ := hx.mem h3
      exact ⟨e, hxs⟩
  · obtain ⟨x, hx, halt⟩ := fixSlots_getElem?_literal (b := u.rexB) hu.wf ho hk hslots.length_eq
    exact ⟨x, operand_of_slot hfix hx, halt⟩

end Sys2Proof.Machine
end

section
/-! SUPPORT. The cursor primitives: when each is Truncated, what it answers and how far it moves the cursor
(20_memory.md R62 to R68); the bytes a form is decoded from (R71). -/

namespace Sys2Proof.Machine

/-! ## Missing bytes -/

theorem State.peek_eq_none {s : State} : s.peek = none ↔ s.len < s.pos + 1 := by simp [State.peek]

theorem State.skip_eq_none {s : State} {n : Nat} : s.skip n = none ↔ s.len < s.pos + n := by simp [State.skip]

theorem State.readU8_eq_none {s : State} : s.readU8 = none ↔ s.len < s.pos + 1 := by simp [State.readU8]

theorem State.readI8_eq_none {s : State} : s.readI8 = none ↔ s.len < s.pos + 1 := by simp [State.readI8]

theorem State.readI32_eq_none {s : State} : s.readI32 = none ↔ s.len < s.pos + 4 := by simp [State.readI32]

theorem State.memRead_eq_none {s : State} {a n : Nat} : s.memRead a n = none ↔ s.len < a + n := by
  simp [State.memRead]

/-- Where `MemRead` is defined it lists the bytes from `a` on (R62). -/
theorem State.memRead_eq_some {s : State} {a n : Nat} {bytes : List Byte} (h : s.memRead a n = some bytes) :
    bytes = (List.range n).map fun k => s.buf.read (a + k) := by
  unfold State.memRead at h
  split at h
  · exact (Option.some.inj h).symm
  · cases h

/-- How many bytes a request of the cursor port needs (R64 to R68). -/
def CurReq.needs : CurReq → Nat
  | .peek | .readU8 | .readI8 => 1
  | .skip n => n
  | .readI32 => 4

/-- A reply is Truncated exactly when fewer bytes remain than the request needs. -/
theorem State.cursorPort_truncated_iff (s : State) (q : CurReq) :
    (s.cursorPort q).1 = .truncated ↔ s.len < s.pos + q.needs := by
  cases q <;> rw [State.cursorPort]
  case peek => exact (State.replyOr_truncated (by simp)).trans State.peek_eq_none
  case skip n => exact (State.replyOr_truncated (by simp)).trans State.skip_eq_none
  case readU8 => exact (State.replyOr_truncated (by simp)).trans State.readU8_eq_none
  case readI8 => exact (State.replyOr_truncated (by simp)).trans State.readI8_eq_none
  case readI32 => exact (State.replyOr_truncated (by simp)).trans State.readI32_eq_none

/-- Settles O35: a reply is Truncated when its primitive has no answer, and the cursor is then lost. -/
theorem primitivesFailExactlyWhenBytesAreMissing : Obligations.PrimitivesFailExactlyWhenBytesAreMissing := by
  intro s
  refine ⟨s.cursorPort_truncated_iff .peek, fun n => s.cursorPort_truncated_iff (.skip n),
    s.cursorPort_truncated_iff .readU8, s.cursorPort_truncated_iff .readI8, s.cursorPort_truncated_iff .readI32,
    fun q hq => ?_, fun a n _ => State.memRead_eq_none, fun a n bytes hb => ?_⟩
  · rw [State.cursorPort_truncated hq]
    exact ⟨rfl, s.drawPos_le⟩
  · obtain rfl := State.memRead_eq_some hb
    exact ⟨by simp, fun k hk => by simp [hk]⟩

/-! ## Answers -/

theorem State.readI8_of_lt {s : State} (h : s.pos < s.len) :
    s.readI8 = some (signed8 (s.buf.read s.pos), { s with pos := s.pos + 1 }) := by
  rw [State.readI8, if_pos (Nat.succ_le_of_lt h), toInt_eq_signed8]

theorem State.readI32_of_le {s : State} (h : s.pos + 4 ≤ s.len) :
    s.readI32 = some (signed32 (s.buf.read s.pos) (s.buf.read (s.pos + 1)) (s.buf.read (s.pos + 2))
      (s.buf.read (s.pos + 3)), { s with pos := s.pos + 4 }) := by
  rw [State.readI32, if_pos h, le32_toInt]

/-- Settles O36: the reply carries what the primitive answers. -/
theorem primitivesAnswerTheBytes : Obligations.PrimitivesAnswerTheBytes := by
  intro s
  refine ⟨fun h => ⟨?_, ?_, ?_⟩, fun n h => ?_, fun h => ?_⟩
  · rw [State.cursorPort, State.peek_of_lt h, State.replyOr_some]
  · rw [State.cursorPort, State.readU8_of_lt h, State.replyOr_some]
  · rw [State.cursorPort, State.readI8_of_lt h, State.replyOr_some]
  · rw [State.cursorPort, State.skip_of_le h, State.replyOr_some]
  · rw [State.cursorPort, State.readI32_of_le h, State.replyOr_some]

/-! ## The bytes of a form -/

theorem State.formBytes_rm {s : State} {v : ModRM} (hs : s.stage = .rm) (hv : s.modrm = some v) :
    s.formBytes = [v.toByte] := by
  simp [State.formBytes, hs, hv]

theorem State.formBytes_sib {s : State} {v : ModRM} {x : Sib} (hs : s.stage = .sib) (hv : s.modrm = some v)
    (hx : s.sib = some x) : s.formBytes = [v.toByte, x.toByte] := by
  simp [State.formBytes, hs, hv, hx]

/-- Settles O6: the bytes come from the stream, or from the registers MODRM and SIB. -/
theorem formBytesAreAtTheCursor : Obligations.FormBytesAreAtTheCursor := by
  refine ⟨fun s hs k => ?_, fun s v hs hv => ?_, fun s v x hs hv hx => ?_⟩
  · rw [State.formBytes_stream hs, State.getElem?_bytesFrom]
  · rw [State.formBytes_rm hs hv, ModRM.toByte_ofByte]
  · rw [State.formBytes_sib hs hv hx, ModRM.toByte_ofByte, Sib.toByte_ofByte]

end Sys2Proof.Machine
end

section
/-! SUPPORT. The block writes no memory (20_memory.md R61), and one call at a time uses a cursor (R82). -/

namespace Sys2Proof.Machine

/-- No row changes the buffer, its length, or the caller's moves. -/
theorem RowEffect.memory_eq {s t : State} {i : Instr} (h : RowEffect s i t) :
    t.buf = s.buf ∧ t.len = s.len ∧ t.host = s.host := by
  cases h with
  | error | opcode | pfx | rexByte | reg | direct | follows | mem => exact ⟨rfl, rfl, rfl⟩

/-- No step of a call changes the buffer or its length. -/
theorem CallEffect.memory_eq {s t : State} (h : CallEffect s t) : t.buf = s.buf ∧ t.len = s.len := by
  cases h with
  | row i t hf hs ht =>
    obtain ⟨hbuf, hlen, -⟩ := ht.memory_eq
    exact ⟨hbuf, hlen⟩
  | truncated | fixed | reset => exact ⟨rfl, rfl⟩

/-- Settles O31: every effect of a row and of a step of a call leaves the buffer as it was. -/
theorem rowsWriteNoMemory : Obligations.RowsWriteNoMemory := by
  refine ⟨fun s t i h => ?_, fun s t hs h => ?_⟩
  · obtain ⟨hbuf, hlen, hhost⟩ := (exec_next h).memory_eq
    exact ⟨hbuf, fun a => by rw [hbuf], hlen, (exec_next h).cfg_eq, hhost⟩
  · obtain ⟨hbuf, hlen⟩ := (step_next_call hs h).memory_eq
    exact ⟨fun a => by rw [hbuf], hbuf, hlen, (step_next_call hs h).cfg_eq⟩

/-- Settles O40, by the rule of a start during a call. -/
theorem overlappingCallIsRefused : Obligations.OverlappingCallIsRefused :=
  fun _ _ hs hh => step_start hs hh

end Sys2Proof.Machine
end

section
/-! SUPPORT. The invariant of the block (20_memory.md R63; 10_state.md R20, R22, R23, R41): what it says at each stage,
and that a row, FIXRES, an error, a reset and every move of the caller keep it. -/

namespace Sys2Proof.Machine

/-! ## The cursor and the buffer -/

theorem State.cursorOk_iff (s : State) : s.cursorOk = true ↔
    s.pos ≤ s.len ∧ s.len < 2 ^ s.cfg.posBits ∧ s.buf.wf = true ∧ s.buf.within s.len = true := by
  simp [State.cursorOk, and_assoc]

/-- Where the buffer and the parameters are as before, a position within LEN keeps the cursor in its bounds. -/
theorem State.cursorOk_of_pos_le {s t : State} (hs : s.cursorOk = true) (hbuf : t.buf = s.buf) (hlen : t.len = s.len)
    (hcfg : t.cfg = s.cfg) (hp : t.pos ≤ s.len) : t.cursorOk = true := by
  obtain ⟨-, hbits, hwf, hwithin⟩ := s.cursorOk_iff.mp hs
  exact t.cursorOk_iff.mpr (by rw [hbuf, hlen, hcfg]; exact ⟨hp, hbits, hwf, hwithin⟩)

theorem RowEffect.pos_le {s t : State} {i : Instr} (h : RowEffect s i t) (hs : s.stage ≠ .idle)
    (hp : s.pos ≤ s.len) : t.pos ≤ s.len := by
  rcases h.goesOn_or_error hs with ⟨hgo, -⟩ | ⟨side, e, rfl, -⟩
  · obtain ⟨-, -, hle⟩ := h.pos_forward hgo
    obtain ⟨-, hlen, -⟩ := h.memory_eq
    exact hlen ▸ hle hp
  · exact errorState_pos_le s side e

theorem CallEffect.cursorOk {s t : State} (h : CallEffect s t) (hs : s.stage ≠ .idle) (hc : s.cursorOk = true) :
    t.cursorOk = true := by
  obtain ⟨hbuf, hlen⟩ := h.memory_eq
  obtain ⟨hp, -⟩ := s.cursorOk_iff.mp hc
  refine State.cursorOk_of_pos_le hc hbuf hlen h.cfg_eq ?_
  cases h with
  | row i t hf hfix ht => exact ht.pos_le hs hp
  | truncated => exact errorState_pos_le s _ .truncated
  | fixed => exact hp
  | reset => exact s.drawPos_le

theorem HostEffect.cursorOk {s t : State} (h : HostEffect s t) (hc : s.cursorOk = true) : t.cursorOk = true := by
  cases h with
  | nothing | start | await | reset => exact hc
  | setPos p rest hh hp => exact State.cursorOk_of_pos_le hc rfl rfl rfl hp
  | load bytes p rest hh hb hp =>
    exact (State.cursorOk_iff _).mpr ⟨hp, hb, Memory.ofBytes_wf bytes, Memory.ofBytes_within bytes⟩

/-! ## The slots of a call -/

theorem State.resolved_iff (s : State) (q : OpcodeDescriptor → Bool) : s.resolved q = true ↔
    ∃ d l, s.desc = some d ∧ s.slots = some l ∧ d.wf s.cfg.nslot = true ∧ l.length = d.operands.length ∧ q d = true := by
  cases hd : s.desc <;> cases hl : s.slots <;> simp [State.resolved, hd, hl, and_assoc]

theorem State.slotFilled_iff (s : State) (role : Option OperandDescriptor) : s.slotFilled role = true ↔
    ∃ o l v, role = some o ∧ s.slots = some l ∧ l[o.index]? = some (some v) := by
  cases role with
  | none => simp [State.slotFilled]
  | some o =>
    cases hl : s.slots with
    | none => simp [State.slotFilled, hl]
    | some l => simp only [State.slotFilled, hl]; split <;> simp_all

theorem State.resolved_mono {s : State} {p q : OpcodeDescriptor → Bool} (h : s.resolved p = true)
    (hpq : ∀ d, p d = true → q d = true) : s.resolved q = true := by
  obtain ⟨d, l, hd, hl, hwf, hlen, hp⟩ := (s.resolved_iff p).mp h
  exact (s.resolved_iff q).mpr ⟨d, l, hd, hl, hwf, hlen, hpq d hp⟩

/-- Writing a slot keeps the array's length. -/
theorem State.resolved_setSlot {s : State} {q : OpcodeDescriptor → Bool} (h : s.resolved q = true) (k : Nat)
    (v : Operand) : (s.setSlot k v).resolved q = true := by
  obtain ⟨d, l, hd, hl, hwf, hlen, hq⟩ := (s.resolved_iff q).mp h
  exact (State.resolved_iff _ q).mpr ⟨d, l.set k (some v), hd, by simp [hl], hwf, by simp [hlen], hq⟩

/-- Writing a slot empties none. -/
theorem State.slotFilled_setSlot {s : State} {role : Option OperandDescriptor} (h : s.slotFilled role = true)
    (k : Nat) (v : Operand) : (s.setSlot k v).slotFilled role = true := by
  obtain ⟨o, l, w, ho, hl, hw⟩ := (s.slotFilled_iff role).mp h
  refine (State.slotFilled_iff _ role).mpr ?_
  by_cases hk : k = o.index
  · obtain ⟨hlt, -⟩ := List.getElem?_eq_some_iff.mp hw
    exact ⟨o, l.set k (some v), v, ho, by simp [hl], by simp [hk, hlt]⟩
  · exact ⟨o, l.set k (some v), w, ho, by simp [hl], by rw [List.getElem?_set_ne hk, hw]⟩

/-- Writing the slot of a role of the descriptor fills it: a well-formed descriptor's slots are in the array (W1). -/
theorem State.slotFilled_setSlot_role {s : State} {q : OpcodeDescriptor → Bool} (h : s.resolved q = true)
    {role : OpcodeDescriptor → Option Nat} {o : OperandDescriptor} (ho : (s.desc.bind fun d => d.deref (role d)) = some o)
    (v : Operand) : (s.setSlot o.index v).slotFilled (some o) = true := by
  obtain ⟨d, l, hd, hl, hwf, hlen, -⟩ := (s.resolved_iff q).mp h
  have hmem : o ∈ d.operands := d.mem_of_deref (role := role d) (by simpa [hd] using ho)
  have hlt : o.index < l.length := hlen ▸ d.index_lt_of_wf hwf hmem
  exact (State.slotFilled_iff _ _).mpr ⟨o, l.set o.index (some v), v, rfl, by simp [hl], by simp [hlt]⟩

/-! ## What the invariant says at each stage -/

theorem State.forward_iff (s : State) : s.forward = true ↔ ∃ p, s.pos0 = some p ∧ p ≤ s.pos := by
  cases hp : s.pos0 <;> simp [State.forward, hp]

/-- A call in progress: it has not moved the cursor back, and nothing is shown yet. -/
def State.InCall (s : State) : Prop := s.forward = true ∧ s.out = none

/-- No opcode is resolved: the registers that OPCRES and AMODE write hold no value. -/
def State.Unresolved (s : State) : Prop :=
  s.opc = none ∧ s.desc = none ∧ s.modrm = none ∧ s.sib = none ∧ s.disp = none ∧ s.slots = none

/-- The ModRM byte is read and the reg operand stored (43_addressing_mode.md R191). -/
def State.ModrmRead (s : State) : Prop :=
  s.opc.isSome = true ∧ s.modrm.isSome = true ∧ s.resolved (fun d => d.modrm) = true ∧ s.slotFilled s.regRole = true

theorem State.workOk_scan_iff {s : State} (hs : s.stage = .scan) :
    s.workOk = true ↔ s.InCall ∧ s.rex = none ∧ s.Unresolved := by
  simp [State.workOk, hs, State.InCall, State.Unresolved, and_assoc]

theorem State.workOk_opcode_iff {s : State} (hs : s.stage = .opcode) : s.workOk = true ↔ s.InCall ∧ s.Unresolved := by
  simp [State.workOk, hs, State.InCall, State.Unresolved, and_assoc]

theorem State.workOk_modrm_iff {s : State} (hs : s.stage = .modrm) : s.workOk = true ↔
    s.InCall ∧ s.opc.isSome = true ∧ s.modrm = none ∧ s.sib = none ∧ s.disp = none ∧
      s.resolved (fun d => d.modrm) = true := by
  simp [State.workOk, hs, State.InCall, and_assoc]

theorem State.workOk_rm_iff {s : State} (hs : s.stage = .rm) :
    s.workOk = true ↔ s.InCall ∧ s.ModrmRead ∧ s.sib = none ∧ s.disp = none := by
  simp only [State.workOk, hs, State.InCall, State.ModrmRead, Bool.and_eq_true, Option.isNone_iff_eq_none]
  tauto

theorem State.workOk_sib_iff {s : State} (hs : s.stage = .sib) : s.workOk = true ↔
    s.InCall ∧ s.ModrmRead ∧ s.sib.isSome = true ∧ s.disp = none ∧ ∃ v, s.modrm = some v ∧ v.hasSib = true := by
  cases hv : s.modrm with
  | none => simp [State.workOk, hs, State.ModrmRead, hv]
  | some v =>
    simp only [State.workOk, hs, State.InCall, State.ModrmRead, hv, Bool.and_eq_true, Option.isNone_iff_eq_none,
      Option.isSome_some, Option.some.injEq, exists_eq_left']
    tauto

theorem State.workOk_fixed_iff {s : State} (hs : s.stage = .fixed) : s.workOk = true ↔
    s.InCall ∧ s.opc.isSome = true ∧ s.resolved (fun d =>
      !d.modrm || (s.modrm.isSome && s.slotFilled s.regRole && s.slotFilled s.opRole)) = true := by
  simp [State.workOk, hs, State.InCall, and_assoc]

theorem State.workOk_idle_iff {s : State} (hs : s.stage = .idle) : s.workOk = true ↔ s.workEmpty = true := by
  simp [State.workOk, hs]

theorem State.inCall_of_workOk {s : State} (hs : s.stage ≠ .idle) (h : s.workOk = true) : s.InCall := by
  cases hst : s.stage with
  | idle => contradiction
  | scan => exact ((State.workOk_scan_iff hst).mp h).1
  | opcode => exact ((State.workOk_opcode_iff hst).mp h).1
  | modrm => exact ((State.workOk_modrm_iff hst).mp h).1
  | rm => exact ((State.workOk_rm_iff hst).mp h).1
  | sib => exact ((State.workOk_sib_iff hst).mp h).1
  | fixed => exact ((State.workOk_fixed_iff hst).mp h).1

theorem State.unresolved_of_workOk {s : State} (hs : s.stage = .scan ∨ s.stage = .opcode) (h : s.workOk = true) :
    s.Unresolved := by
  rcases hs with hs | hs
  · obtain ⟨-, -, hu⟩ := (State.workOk_scan_iff hs).mp h
    exact hu
  · obtain ⟨-, hu⟩ := (State.workOk_opcode_iff hs).mp h
    exact hu

theorem State.modrmRead_of_workOk {s : State} (hs : s.stage = .rm ∨ s.stage = .sib) (h : s.workOk = true) :
    s.ModrmRead := by
  rcases hs with hs | hs
  · obtain ⟨-, hr, -⟩ := (State.workOk_rm_iff hs).mp h
    exact hr
  · obtain ⟨-, hr, -⟩ := (State.workOk_sib_iff hs).mp h
    exact hr

/-! ## Which stage reads a row -/

/-- The stage at which a row is read; an opcode also at `scan`, when no prefix and no REX byte comes first (30_encoding.md
R120). -/
def rowReadAt (st : Stage) : Row → Prop
  | .pfx _ | .rexByte _ _ _ _ => st = .scan
  | .oneByte _ | .cell _ | .twoByte _ | .threeByteA _ | .threeByteB _ => st = .scan ∨ st = .opcode
  | .reg _ _ _ => st = .modrm
  | .direct _ _ | .follows _ | .mem _ _ _ => st = .rm
  | .sib _ _ _ _ _ => st = .sib

theorem rowReadAt_of_opcodeOf {p : Params} {r : Row} {o : OpcBytes} {st : Stage} (ho : opcodeOf p r = some o) :
    rowReadAt st r ↔ st = .scan ∨ st = .opcode := by
  rcases opcodeOf_cases ho with ⟨o1, rfl | rfl, -⟩ | ⟨o2, rfl, -⟩ | ⟨o3, rfl, -⟩ | ⟨o3, rfl, -⟩ <;> rfl

theorem rowReadAt_of_buildsMem {r : Row} {st : Stage} (hb : r.buildsMem = true) (h : rowReadAt st r) :
    st = .rm ∨ st = .sib := by
  rcases row_cases_of_buildsMem hb with ⟨k, rm, rfl⟩ | ⟨k, idx, bs, base5, ss, rfl⟩
  · exact .inl h
  · exact .inr h

theorem FetchedAt.rowReadAt {s : State} {i : Instr} (h : FetchedAt s i) : rowReadAt s.stage i.row := by
  cases h with
  | pfx hs f hr | rexByte hs w r x b hr | modrm hs mod reg rm hr => rw [hr]; exact hs
  | opcode hs o ho => exact (rowReadAt_of_opcodeOf ho).mpr hs
  | rm hs v hv hi =>
    subst hi
    rcases decodeRm_row s.ctx v with ⟨m, hr⟩ | ⟨k, hr⟩ | ⟨k, hr⟩ <;> rw [hr] <;> exact hs
  | sib hs v x hv hx k hk hr => rw [hr]; exact hs

theorem FetchedAt.stage_ne_idle {s : State} {i : Instr} (h : FetchedAt s i) : s.stage ≠ .idle := by
  intro hi
  cases h with
  | pfx hs | rexByte hs | modrm hs | rm hs | sib hs => rw [hi] at hs; cases hs
  | opcode hs => simp [hi] at hs

/-- A "SIB follows" row is fetched with the ModRM byte that a SIB byte follows. -/
theorem FetchedAt.hasSib_of_follows {s : State} {i : Instr} {k : MemMod} (h : FetchedAt s i)
    (hr : i.row = .follows k) : ∃ v, s.modrm = some v ∧ v.hasSib = true := by
  cases h with
  | rm hs v hv hi =>
    subst hi
    exact ⟨v, hv, decodeRm_row_follows hr⟩
  | pfx _ _ hr' | rexByte _ _ _ _ _ hr' | modrm _ _ _ _ hr' | sib _ _ _ _ _ _ _ hr' => rw [hr] at hr'; cases hr'
  | opcode _ o ho => rw [hr] at ho; cases ho

/-! ## The rows -/

theorem workOk_errorState (s : State) (side : Option Side) (e : DecodeError) : (errorState s side e).workOk = true :=
  rfl

/-- The start of the call stays where it is. -/
theorem RowEffect.pos0_eq {s t : State} {i : Instr} (h : RowEffect s i t) (ht : t.stage ≠ .idle) :
    t.pos0 = s.pos0 := by
  cases h with
  | error => exact absurd rfl ht
  | opcode | pfx | rexByte | reg | direct | follows | mem => rfl

/-- A row that goes on keeps the call in progress. -/
theorem RowEffect.inCall {s t : State} {i : Instr} (h : RowEffect s i t) (ht : t.stage ≠ .idle)
    (hout : t.out = s.out) (hs : s.InCall) : t.InCall := by
  obtain ⟨hfwd, hnone⟩ := hs
  obtain ⟨p, hp0, hp⟩ := s.forward_iff.mp hfwd
  obtain ⟨hle, -⟩ := h.pos_forward ht
  exact ⟨t.forward_iff.mpr ⟨p, (h.pos0_eq ht).trans hp0, hp.trans hle⟩, hout.trans hnone⟩

/-- OPCRES: AMODE is next with ModRM, FIXRES without (46_orchestrator.md R261). -/
theorem workOk_resolvedState {s : State} {o : OpcBytes} {n : Nat} {d : OpcodeDescriptor} (hu : s.Unresolved)
    (hd : d.wf s.cfg.nslot = true) (hc : (resolvedState s o n d).InCall) : (resolvedState s o n d).workOk = true := by
  obtain ⟨-, -, hmodrm, hsib, hdisp, -⟩ := hu
  have hres : (resolvedState s o n d).resolved (fun d' => d'.modrm == d.modrm) = true :=
    (State.resolved_iff _ _).mpr ⟨d, _, rfl, rfl, hd, by simp, by simp⟩
  cases hm : d.modrm with
  | true =>
    refine (State.workOk_modrm_iff (by simp [resolvedState, hm])).mpr ⟨hc, rfl, hmodrm, hsib, hdisp, ?_⟩
    exact State.resolved_mono hres fun d' h => by simpa [hm] using h
  | false =>
    refine (State.workOk_fixed_iff (by simp [resolvedState, hm])).mpr ⟨hc, rfl, ?_⟩
    exact State.resolved_mono hres fun d' h => by simp [show d'.modrm = false by simpa [hm] using h]

/-- MODRM_REG fills the slot of `r`. -/
theorem State.ModrmRead.of_reg {s : State} {o : OperandDescriptor} (hopc : s.opc.isSome = true)
    (hres : s.resolved (fun d => d.modrm) = true) (ho : s.regRole = some o) (p : Nat) (v : ModRM) (x : Operand) :
    State.ModrmRead { s with
      pos := p, modrm := some v, slots := s.slots.map fun l => l.set o.index (some x), stage := .rm } := by
  refine ⟨hopc, rfl, State.resolved_setSlot hres o.index x, ?_⟩
  have hfilled : (s.setSlot o.index x).slotFilled s.regRole = true := by
    rw [ho]; exact State.slotFilled_setSlot_role (role := OpcodeDescriptor.r) hres ho x
  exact hfilled

/-- AMODE ends: `op`'s slot is filled, and the slot of `r` stays so. -/
theorem State.ModrmRead.workOk_opStored {s : State} {o : OperandDescriptor} {x : Operand} {p : Nat} {y : Option Int}
    (h : s.ModrmRead) (ho : s.opRole = some o)
    (hc : State.InCall { s with
      pos := p, disp := y, slots := s.slots.map fun l => l.set o.index (some x), stage := .fixed }) :
    State.workOk { s with
      pos := p, disp := y, slots := s.slots.map fun l => l.set o.index (some x), stage := .fixed } = true := by
  obtain ⟨hopc, hmodrm, hres, hreg⟩ := h
  have hop : (s.setSlot o.index x).slotFilled s.opRole = true := by
    rw [ho]; exact State.slotFilled_setSlot_role (role := OpcodeDescriptor.opRole) hres ho x
  have hreg' : (s.setSlot o.index x).slotFilled s.regRole = true := State.slotFilled_setSlot hreg o.index x
  have hfixed : (s.setSlot o.index x).resolved (fun d => !d.modrm || (s.modrm.isSome &&
      (s.setSlot o.index x).slotFilled s.regRole && (s.setSlot o.index x).slotFilled s.opRole)) = true :=
    State.resolved_mono (State.resolved_setSlot hres o.index x) fun d _ => by simp [hmodrm, hreg', hop]
  exact (State.workOk_fixed_iff rfl).mpr ⟨hc, hopc, hfixed⟩

/-- A row fetched at its stage leaves the working registers of the next stage, or of no call after an error. -/
theorem RowEffect.workOk {s t : State} {i : Instr} (h : RowEffect s i t) (hf : s.fetch = .ok i)
    (hw : s.workOk = true) : t.workOk = true := by
  have hfetched := fetch_ok hf
  have hs := hfetched.stage_ne_idle
  have hread := hfetched.rowReadAt
  rcases h.goesOn_or_error hs with ⟨hgo, hout⟩ | ⟨side, e, rfl, -⟩
  swap; · exact workOk_errorState s side e
  have hc := h.inCall hgo hout (State.inCall_of_workOk hs hw)
  cases h with
  | error => exact absurd rfl hgo
  | opcode o d ho he hd =>
    exact workOk_resolvedState (State.unresolved_of_workOk ((rowReadAt_of_opcodeOf ho).mp hread) hw) hd hc
  | pfx f hr =>
    rw [hr] at hread
    obtain ⟨-, hrex, hu⟩ := (State.workOk_scan_iff hread).mp hw
    refine (State.workOk_scan_iff ?_).mpr ⟨hc, hrex, hu⟩
    exact hread
  | rexByte w r x b hr =>
    rw [hr] at hread
    obtain ⟨-, -, hu⟩ := (State.workOk_scan_iff hread).mp hw
    exact (State.workOk_opcode_iff rfl).mpr ⟨hc, hu⟩
  | reg mod reg rm o hr hp ho =>
    rw [hr] at hread
    obtain ⟨-, hopc, -, hsib, hdisp, hres⟩ := (State.workOk_modrm_iff hread).mp hw
    exact (State.workOk_rm_iff rfl).mpr ⟨hc, .of_reg hopc hres ho _ _ _, hsib, hdisp⟩
  | direct rm o hr ho =>
    rw [hr] at hread
    exact (State.modrmRead_of_workOk (.inl hread) hw).workOk_opStored ho hc
  | follows k hr =>
    rw [hr] at hread
    obtain ⟨-, hmr, -, hdisp⟩ := (State.workOk_rm_iff hread).mp hw
    exact (State.workOk_sib_iff rfl).mpr ⟨hc, hmr, rfl, hdisp, hfetched.hasSib_of_follows hr⟩
  | mem k o e hb _ ho =>
    exact (State.modrmRead_of_workOk (rowReadAt_of_buildsMem hb hread) hw).workOk_opStored ho hc

/-! ## The step -/

theorem CallEffect.workOk {s t : State} (h : CallEffect s t) (hw : s.workOk = true) : t.workOk = true := by
  cases h with
  | row i t hf hfix ht => exact ht.workOk hf hw
  | truncated => exact workOk_errorState s _ .truncated
  | fixed | reset => rfl

theorem HostEffect.workOk {s t : State} (h : HostEffect s t) (hs : s.stage = .idle) (hw : s.workOk = true) :
    t.workOk = true := by
  have hempty := (State.workOk_idle_iff hs).mp hw
  cases h with
  | nothing => exact hw
  | await | setPos | load =>
    refine (State.workOk_idle_iff ?_).mpr hempty
    exact hs
  | start rest =>
    exact (State.workOk_scan_iff rfl).mpr
      ⟨⟨(State.forward_iff _).mpr ⟨s.pos, rfl, le_rfl⟩, rfl⟩, rfl, rfl, rfl, rfl, rfl, rfl, rfl⟩
  | reset => rfl

theorem State.inv_iff (s : State) : s.Inv = true ↔ s.cursorOk = true ∧ s.workOk = true := by simp [State.Inv]

/-- Settles O43: a move of the caller and every effect of a step of a call keep both halves of the invariant. -/
theorem everyStepKeepsTheInvariant : Obligations.EveryStepKeepsTheInvariant := by
  intro s t hinv h
  obtain ⟨hc, hw⟩ := s.inv_iff.mp hinv
  refine t.inv_iff.mpr ?_
  by_cases hs : s.stage = .idle
  · have heffect := step_next_idle hs h
    exact ⟨heffect.cursorOk hc, heffect.workOk hs hw⟩
  · have heffect := step_next_call hs h
    exact ⟨heffect.cursorOk hs hc, heffect.workOk hw⟩

end Sys2Proof.Machine
end

section
/-! SUPPORT. The decoder and the encoder, row by row: what the decoder reads from an encoding, and what stands in the
bytes it has read (30_encoding.md R103 to R108, R115 to R120). -/

namespace Sys2Proof

/-! ## Where a row is read -/

/-- An opcode begins with `v`: at its own stage, or at `scan` when `v` is no prefix and no REX byte. -/
def Ctx.opcodeBegins (p : Params) (c : Ctx) (v : Byte) : Bool :=
  c.stage == .opcode || (c.stage == .scan && p.prefixOf v == none && !isRexByte v)

theorem Ctx.opcodeBegins_iff {p : Params} {c : Ctx} {v : Byte} : c.opcodeBegins p v = true ↔
    c.stage = .opcode ∨ (c.stage = .scan ∧ p.prefixOf v = none ∧ isRexByte v = false) := by
  simp [Ctx.opcodeBegins, and_assoc]

/-! ## The decoder, stage by stage -/

theorem decode_prefix {p : Params} {c : Ctx} {v : Byte} {f : PfxFlag} (hs : c.stage = .scan)
    (hv : p.prefixOf v = some f) (rest : List Byte) : decode p c (v :: rest) = .ok (pfxInstr f) := by
  simp [decode, hs, hv]

theorem decode_rex {p : Params} {c : Ctx} {v : Byte} (hs : c.stage = .scan) (hv : p.prefixOf v = none)
    (hr : isRexByte v = true) (rest : List Byte) : decode p c (v :: rest) = .ok (rexInstr v) := by
  simp [decode, hs, hv, hr]

theorem decode_opcode {p : Params} {c : Ctx} {v : Byte} (hc : c.opcodeBegins p v = true) (rest : List Byte) :
    decode p c (v :: rest) = decodeOpcode p v rest := by
  rcases Ctx.opcodeBegins_iff.mp hc with hs | ⟨hs, hv, hr⟩
  · simp [decode, hs]
  · simp [decode, hs, hv, hr]

theorem decode_modrm {c : Ctx} (hs : c.stage = .modrm) (p : Params) (v : Byte) (rest : List Byte) :
    decode p c (v :: rest) = .ok (.modrmReg (bits76 v) (bits53 v) (bits20 v)) := by
  simp [decode, hs]

theorem decode_rm {c : Ctx} (hs : c.stage = .rm) (p : Params) (v : Byte) (rest : List Byte) :
    decode p c (v :: rest) = .ok (decodeRm c (ModRM.ofByte v)) := by
  simp [decode, hs]

theorem decode_sib {c : Ctx} (hs : c.stage = .sib) (p : Params) (v x : Byte) (rest : List Byte) :
    decode p c (v :: x :: rest) = decodeSib p c (ModRM.ofByte v) (Sib.ofByte x) := by
  simp [decode, hs]

/-! ## The opcode shapes -/

theorem decodeOpcode_one {p : Params} {o1 : Byte} (h : o1 ≠ p.esc) (rest : List Byte) :
    decodeOpcode p o1 rest = .ok (oneByteInstr o1) := by
  simp [decodeOpcode, h]

theorem decodeOpcode_two {p : Params} {o2 : Byte} (ha : o2 ≠ p.selA) (hb : o2 ≠ p.selB) (rest : List Byte) :
    decodeOpcode p p.esc (o2 :: rest) = .ok (.escTwoByte o2) := by
  simp [decodeOpcode, ha, hb]

theorem decodeOpcode_threeA (p : Params) (o3 : Byte) (rest : List Byte) :
    decodeOpcode p p.esc (p.selA :: o3 :: rest) = .ok (.escThreeByteA o3) := by
  simp [decodeOpcode]

theorem decodeOpcode_threeB {p : Params} (h : p.selA ≠ p.selB) (o3 : Byte) (rest : List Byte) :
    decodeOpcode p p.esc (p.selB :: o3 :: rest) = .ok (.escThreeByteB o3) := by
  simp [decodeOpcode, h.symm]

/-- What the opcode decoder reads: one of the four shapes. -/
theorem decodeOpcode_cases {p : Params} {v : Byte} {rest : List Byte} {i : Instr}
    (h : decodeOpcode p v rest = .ok i) :
    (v ≠ p.esc ∧ i = oneByteInstr v) ∨
    (v = p.esc ∧ ∃ o2 tl, rest = o2 :: tl ∧ o2 ≠ p.selA ∧ o2 ≠ p.selB ∧ i = .escTwoByte o2) ∨
    (v = p.esc ∧ ∃ o3 tl, rest = p.selA :: o3 :: tl ∧ i = .escThreeByteA o3) ∨
    (v = p.esc ∧ ∃ o3 tl, rest = p.selB :: o3 :: tl ∧ p.selA ≠ p.selB ∧ i = .escThreeByteB o3) := by
  by_cases hesc : v = p.esc
  swap; · rw [decodeOpcode_one hesc] at h; cases h; exact .inl ⟨hesc, rfl⟩
  subst hesc
  cases rest with
  | nil => simp [decodeOpcode] at h
  | cons o2 tl =>
    by_cases ha : o2 = p.selA
    · subst ha
      cases tl with
      | nil => simp [decodeOpcode] at h
      | cons o3 tl => rw [decodeOpcode_threeA] at h; cases h; exact .inr (.inr (.inl ⟨rfl, o3, tl, rfl, rfl⟩))
    · by_cases hb : o2 = p.selB
      · subst hb
        cases tl with
        | nil => simp [decodeOpcode, ha] at h
        | cons o3 tl =>
          rw [decodeOpcode_threeB (Ne.symm ha)] at h; cases h
          exact .inr (.inr (.inr ⟨rfl, o3, tl, rfl, Ne.symm ha, rfl⟩))
      · rw [decodeOpcode_two ha hb] at h; cases h
        exact .inr (.inl ⟨rfl, o2, tl, rfl, ha, hb, rfl⟩)

/-- With two bytes after the first, an opcode is complete. -/
theorem decodeOpcode_total (p : Params) (v o2 o3 : Byte) (rest : List Byte) :
    ∃ i, decodeOpcode p v (o2 :: o3 :: rest) = .ok i := by
  by_cases hesc : v = p.esc
  swap; · exact ⟨_, decodeOpcode_one hesc _⟩
  subst hesc
  by_cases ha : o2 = p.selA
  · subst ha; exact ⟨_, decodeOpcode_threeA p o3 rest⟩
  · by_cases hb : o2 = p.selB
    · subst hb; exact ⟨_, decodeOpcode_threeB (Ne.symm ha) o3 rest⟩
    · exact ⟨_, decodeOpcode_two ha hb _⟩

/-! ## Decoding an encoding -/

/-- The encoding of a row, read where the row is admitted, is the row's instruction: one case for each format. -/
theorem decode_encodeWith {p : Params} {c : Ctx} {i : Instr} (reg : BitVec 3) (rest : List Byte)
    (hw : i.wellFormed p = true) (hc : c.admits p i = true) :
    decode p c (encodeWith reg p i ++ rest) = .ok (ofRow i.row) := by
  unfold Instr.wellFormed at hw
  unfold Ctx.admits at hc
  unfold encodeWith
  cases hr : i.row <;> simp only [hr, Bool.and_eq_true, beq_iff_eq, bne_iff_ne] at hw hc
  case pfx f =>
    obtain ⟨v, hv⟩ := Option.isSome_iff_exists.mp hw
    rw [encodeRow, hv]
    exact decode_prefix hc (Params.prefixOf_byteOfFlag hv) rest
  case rexByte w r x b =>
    exact (decode_rex hc.1 hc.2 (isRexByte_rexByteOf w r x b) rest).trans (by rw [rexInstr_rexByteOf]; rfl)
  case oneByte o1 =>
    obtain ⟨⟨hesc, hc3⟩, h89⟩ := hw
    refine (decode_opcode hc rest).trans ((decodeOpcode_one hesc rest).trans ?_)
    simp [oneByteInstr, hc3, h89, ofRow]
  case cell o1 =>
    refine (decode_opcode hc rest).trans ((decodeOpcode_one hw rest).trans ?_)
    rcases Instr.row_cell hr with rfl | rfl <;> rfl
  case twoByte o2 => exact (decode_opcode hc _).trans (decodeOpcode_two hw.1 hw.2 rest)
  case threeByteA o3 => exact (decode_opcode hc _).trans (decodeOpcode_threeA p o3 rest)
  case threeByteB o3 => exact (decode_opcode hc _).trans (decodeOpcode_threeB hw o3 rest)
  case reg mod own rm => exact (decode_modrm hc p _ rest).trans (by simp [ofRow])
  case direct m rm =>
    exact (decode_rm hc.1 p _ rest).trans (by simp [decodeRm_direct, hc.2, ofRow])
  case follows k =>
    exact (decode_rm hc p _ rest).trans (by simp [decodeRm_follows (k := k), ofRow])
  case mem k rm x =>
    exact (decode_rm hc.1 p _ rest).trans (by simp [decodeRm_mem (k := k), Instr.row_mem hr, hc.2, ofRow])
  case sib k idx bs base5 ss =>
    exact (decode_sib hc.1 p _ _ rest).trans (by simp [decodeSib_ok (k := k), hc.2, ofRow])

/-- Settles O1: the encoding of a row decodes to the row's instruction, and a row has one instruction. -/
theorem decodeReadsEveryEncoding : Obligations.DecodeReadsEveryEncoding := by
  intro p c i reg rest hw hc
  rw [decode_encodeWith reg rest hw hc, ofRow_row]

/-! ## Encoding what was decoded -/

/-- The bytes at hand are those of the instruction: a well-formed one, at a place its row admits, and they begin with
its encoding. -/
def Ctx.EncodedAt (p : Params) (c : Ctx) (bytes : List Byte) (i : Instr) : Prop :=
  i.wellFormed p = true ∧ c.admits p i = true ∧ ∃ reg rest, bytes = encodeWith reg p i ++ rest

theorem encodedAt_pfx {p : Params} {c : Ctx} {v : Byte} {f : PfxFlag} (hp : p.oneBytePerFlag) (hs : c.stage = .scan)
    (hv : p.prefixOf v = some f) (rest : List Byte) : c.EncodedAt p (v :: rest) (pfxInstr f) := by
  have hb : p.byteOfFlag f = some v := Params.byteOfFlag_eq hp hv
  refine ⟨?_, ?_, 0#3, rest, ?_⟩
  · simp [Instr.wellFormed, Params.pfxEntryOk, hb]
  · simp [Ctx.admits, hs]
  · simp [encodeWith, encodeRow, hb]

theorem encodedAt_rex {p : Params} {c : Ctx} {v : Byte} (hs : c.stage = .scan) (hv : p.prefixOf v = none)
    (hr : isRexByte v = true) (rest : List Byte) : c.EncodedAt p (v :: rest) (rexInstr v) := by
  have hb := rexByteOf_bits hr
  refine ⟨rfl, ?_, 0#3, rest, congrArg (· :: rest) hb.symm⟩
  simp only [Ctx.admits, rexInstr, Instr.row, hb, hs, hv, beq_self_eq_true, Bool.and_self]

theorem encodedAt_oneByte {p : Params} {c : Ctx} {v : Byte} (hc : c.opcodeBegins p v = true) (hesc : v ≠ p.esc)
    (rest : List Byte) : c.EncodedAt p (v :: rest) (oneByteInstr v) := by
  by_cases hcell : v = 0xC3#8 ∨ v = 0x89#8
  · have hr : (oneByteInstr v).row = .cell v := by rw [oneByteInstr_row, if_pos hcell]
    refine ⟨?_, ?_, 0#3, rest, ?_⟩
    · simp [Instr.wellFormed, hr, hesc]
    · simp only [Ctx.admits, hr]; exact hc
    · simp [encodeWith, encodeRow, hr]
  · have hr : (oneByteInstr v).row = .oneByte v := by rw [oneByteInstr_row, if_neg hcell]
    obtain ⟨hc3, h89⟩ := not_or.mp hcell
    refine ⟨?_, ?_, 0#3, rest, ?_⟩
    · simp [Instr.wellFormed, hr, hesc, hc3, h89]
    · simp only [Ctx.admits, hr]; exact hc
    · simp [encodeWith, encodeRow, hr]

theorem encodedAt_opcode {p : Params} {c : Ctx} {v : Byte} {rest : List Byte} {i : Instr}
    (hc : c.opcodeBegins p v = true) (h : decodeOpcode p v rest = .ok i) : c.EncodedAt p (v :: rest) i := by
  rcases decodeOpcode_cases h with ⟨hesc, rfl⟩ | ⟨rfl, o2, tl, rfl, ha, hb, rfl⟩ | ⟨rfl, o3, tl, rfl, rfl⟩ |
    ⟨rfl, o3, tl, rfl, hab, rfl⟩
  · exact encodedAt_oneByte hc hesc rest
  · exact ⟨by simp [Instr.wellFormed, Instr.row, ha, hb], hc, 0#3, tl, rfl⟩
  · exact ⟨rfl, hc, 0#3, tl, rfl⟩
  · exact ⟨by simp [Instr.wellFormed, Instr.row, hab], hc, 0#3, tl, rfl⟩

theorem encodedAt_modrm {c : Ctx} (hs : c.stage = .modrm) (p : Params) (v : Byte) (rest : List Byte) :
    c.EncodedAt p (v :: rest) (.modrmReg (bits76 v) (bits53 v) (bits20 v)) :=
  ⟨rfl, by simp [Ctx.admits, Instr.row, hs], 0#3, rest, by simp [encodeWith, encodeRow, Instr.row]⟩

/-- The `reg` bits that a row of the rm operand leaves free are those of the byte. -/
theorem encodedAt_rm {c : Ctx} (hs : c.stage = .rm) (p : Params) (v : ModRM) (rest : List Byte) :
    c.EncodedAt p (v.toByte :: rest) (decodeRm c v) := by
  obtain ⟨m, reg, rm⟩ := v
  rcases mod_cases m with rfl | ⟨k, rfl⟩
  · rw [decodeRm_direct rfl]
    cases hm : c.memOnly <;> exact ⟨rfl, by simp [Ctx.admits, Instr.row, hs, hm], reg, rest, rfl⟩
  · by_cases hr : rm = 4#3
    · subst hr
      rw [decodeRm_follows (k := k) rfl rfl]
      refine ⟨?_, ?_, reg, rest, ?_⟩
      · simp [Instr.wellFormed]
      · simp [Ctx.admits, hs]
      · simp [encodeWith, encodeRow, ModRM.toByte]
    · rw [decodeRm_mem (k := k) rfl hr]
      have hrow := memInstr_row k c.rexX rm hr
      refine ⟨?_, ?_, reg, rest, ?_⟩
      · simp [Instr.wellFormed, hrow]
      · simp [Ctx.admits, hrow, hs]
      · simp [encodeWith, encodeRow, hrow, ModRM.toByte]

theorem encodedAt_sib {p : Params} {c : Ctx} {v : ModRM} {x : Sib} {i : Instr} (hs : c.stage = .sib)
    (h : decodeSib p c v x = .ok i) (rest : List Byte) : c.EncodedAt p (v.toByte :: x.toByte :: rest) i := by
  obtain ⟨m, reg, rm⟩ := v
  rcases mod_cases m with rfl | ⟨k, rfl⟩
  · simp [decodeSib] at h
  by_cases hr : rm = 4#3
  · subst hr
    rw [decodeSib_ok (k := k) rfl rfl] at h
    cases h
    have hrow := sibInstr_row k x.idx x.bs _ x.ss (base5Test_bs (p := p) (b := c.rexB))
    refine ⟨?_, ?_, reg, rest, ?_⟩
    · simp [Instr.wellFormed, hrow]
    · simp [Ctx.admits, hrow, hs]
    · simp [encodeWith, encodeRow, hrow, ModRM.toByte, Sib.toByte]
  · simp [decodeSib, hr] at h

/-- Settles O2: stage by stage and byte by byte, as `decode` reads. -/
theorem decodedBytesAreTheEncoding : Obligations.DecodedBytesAreTheEncoding := by
  intro p c bytes i hp h
  change c.EncodedAt p bytes i
  cases hs : c.stage with
  | idle | fixed => simp [decode, hs] at h
  | scan =>
    cases bytes with
    | nil => simp [decode, hs] at h
    | cons v rest =>
      cases hv : p.prefixOf v with
      | some f => rw [decode_prefix hs hv] at h; cases h; exact encodedAt_pfx hp hs hv rest
      | none =>
        cases hr : isRexByte v with
        | true => rw [decode_rex hs hv hr] at h; cases h; exact encodedAt_rex hs hv hr rest
        | false =>
          have hc : c.opcodeBegins p v = true := Ctx.opcodeBegins_iff.mpr (.inr ⟨hs, hv, hr⟩)
          rw [decode_opcode hc] at h
          exact encodedAt_opcode hc h
  | opcode =>
    cases bytes with
    | nil => simp [decode, hs] at h
    | cons v rest =>
      have hc : c.opcodeBegins p v = true := Ctx.opcodeBegins_iff.mpr (.inl hs)
      rw [decode_opcode hc] at h
      exact encodedAt_opcode hc h
  | modrm =>
    cases bytes with
    | nil => simp [decode, hs] at h
    | cons v rest => rw [decode_modrm hs] at h; cases h; exact encodedAt_modrm hs p v rest
  | rm =>
    cases bytes with
    | nil => simp [decode, hs] at h
    | cons v rest =>
      rw [decode_rm hs] at h
      cases h
      simpa using encodedAt_rm hs p (ModRM.ofByte v) rest
  | sib =>
    match bytes, h with
    | [], h | [_], h => simp [decode, hs] at h
    | v :: x :: rest, h =>
      rw [decode_sib hs] at h
      simpa using encodedAt_sib hs h rest

/-! ## No byte string is reserved -/

/-- A ModRM byte that a SIB byte follows: `mod` names a memory form and `rm` is 4. -/
theorem ModRM.exists_field_of_hasSib {v : ModRM} (h : v.hasSib = true) :
    (∃ k : MemMod, v.mod = k.field) ∧ v.rm = 4#3 := by
  simp only [ModRM.hasSib, Bool.and_eq_true, bne_iff_ne, beq_iff_eq] at h
  exact ⟨(mod_cases v.mod).resolve_left h.1, h.2⟩

/-- Settles O3: each stage that reads the stream has a row for every first byte. -/
theorem everyByteStringIsARow : Obligations.EveryByteStringIsARow := by
  rintro p c b0 b1 b2 rest (hs | hs | hs | hs | ⟨hs, hsib⟩)
  · cases hv : p.prefixOf b0 with
    | some f => exact ⟨_, decode_prefix hs hv _⟩
    | none =>
      cases hr : isRexByte b0 with
      | true => exact ⟨_, decode_rex hs hv hr _⟩
      | false =>
        rw [decode_opcode (Ctx.opcodeBegins_iff.mpr (.inr ⟨hs, hv, hr⟩))]
        exact decodeOpcode_total p b0 b1 b2 rest
  · rw [decode_opcode (Ctx.opcodeBegins_iff.mpr (.inl hs))]
    exact decodeOpcode_total p b0 b1 b2 rest
  · exact ⟨_, decode_modrm hs p b0 _⟩
  · exact ⟨_, decode_rm hs p b0 _⟩
  · obtain ⟨⟨k, hk⟩, hr⟩ := ModRM.exists_field_of_hasSib hsib
    exact ⟨_, (decode_sib hs p b0 b1 _).trans (decodeSib_ok hk hr _)⟩

/-! ## The words of the spec -/

/-- Settles O4: each word is one run of the decoder under the default parameters. -/
theorem specWordsDecode : Obligations.SpecWordsDecode := by
  unfold Obligations.SpecWordsDecode
  and_intros <;> rfl

end Sys2Proof
end

section
/-! SUPPORT. The two causes of InvalidEncoding: which rows raise it, and which ModRM bytes are such rows (30_encoding.md
R116; 43_addressing_mode.md R195, R196). -/

namespace Sys2Proof.Machine

/-! ## The rows that raise it -/

/-- A row of `mod` 3 whose descriptor has an `m` operand, or a no-SIB memory row with REX.x. -/
def RaisesInvalid (r : Row) : Prop := (∃ rm, r = .direct true rm) ∨ ∃ k rm, r = .mem k rm true

/-- A call that has ended with InvalidEncoding. -/
def State.EndedInvalid (t : State) : Prop := t.stage = .idle ∧ t.result = some (.error .invalidEncoding)

theorem endedInvalid_errorState_iff {s : State} {side : Option Side} {e : DecodeError} :
    (errorState s side e).EndedInvalid ↔ e = .invalidEncoding := by
  simp [State.EndedInvalid, errorState, State.result]

theorem opcodeRow_not_endedInvalid {s t : State} {o : OpcBytes} (h : opcodeRow o s = .next t) : ¬ t.EndedInvalid := by
  by_cases hp : s.pos + o.count ≤ s.len
  · cases he : o.entry s.cfg with
    | none =>
      rw [opcodeRow_unknown hp he] at h
      cases h
      simp [endedInvalid_errorState_iff]
    | some d =>
      cases hd : d.wf s.cfg.nslot with
      | false => rw [opcodeRow_refused hp he hd] at h; cases h
      | true =>
        rw [opcodeRow_resolved hp he hd] at h
        cases h
        cases hm : d.modrm <;> simp [State.EndedInvalid, resolvedState, hm]
  · rw [opcodeRow_truncated (by omega)] at h
    cases h
    simp [endedInvalid_errorState_iff]

theorem memOp_not_endedInvalid {s t : State} {k : MemMod} {f : OperandDescriptor → Option Int → MemoryExpr}
    (h : memOp k f s = .next t) : ¬ t.EndedInvalid := by
  rcases memOp_next h with ⟨-, rfl⟩ | ⟨o, -, -, rfl⟩
  · simp [endedInvalid_errorState_iff]
  · simp [State.EndedInvalid]

/-- Row by row: an opcode or memory row never raises it, a row that reads one byte raises Truncated only, and
MODRM_REGDIRECT raises nothing. -/
theorem raisesInvalid_of_exec {s t : State} {i : Instr} (hs : s.stage ≠ .idle) (h : exec i s = .next t)
    (ht : t.EndedInvalid) : RaisesInvalid i.row := by
  obtain ⟨side, e, rfl, -, hlen⟩ := ((exec_next h).goesOn_or_error hs).resolve_left fun hgo => hgo.1 ht.1
  obtain rfl := endedInvalid_errorState_iff.mp ht
  have hmissing : ∀ {r : Row}, i.row = r → opcodeOf s.cfg r = none → r.consumes = 1 → s.len < s.pos + 1 := by
    rintro _ rfl ho hone
    exact hone ▸ hlen ho (by omega)
  rcases row_cases i s with ⟨o, hr, ex⟩ | ⟨f, hr, ex⟩ | ⟨w, r, x, b, hr, ex⟩ | ⟨mod, reg, rm, hr, ex⟩ | ⟨hr, ex⟩ |
    ⟨rm, hr, ex⟩ | ⟨k, hr, ex⟩ | ⟨k, rm, hr, ex⟩ | ⟨k, idx, bs, ss, hr, ex⟩ | ⟨idx, bs, ss, hr, ex⟩ |
    ⟨k, idx, bs, ss, hr, hk, ex⟩ <;> rw [ex] at h
  · exact absurd ht (opcodeRow_not_endedInvalid h)
  · nomatch (pfxRow_truncated (hmissing hr rfl rfl) f).symm.trans h
  · nomatch (rexRow_truncated (hmissing hr rfl rfl) w r x b).symm.trans h
  · nomatch (regRow_truncated (hmissing hr rfl rfl) mod reg rm).symm.trans h
  · exact hr
  · cases ho : s.opRole with
    | none => simp [directRow, ho] at h
    | some o =>
      rw [directRow_eq ho] at h
      nomatch congrArg State.stage (Host.Outcome.next.inj h)
  · nomatch (followsRow_truncated (hmissing hr rfl rfl)).symm.trans h
  all_goals exact absurd ht (memOp_not_endedInvalid h)

theorem exec_endedInvalid_iff {s : State} (hs : s.stage ≠ .idle) (i : Instr) :
    (∃ t, exec i s = .next t ∧ t.EndedInvalid) ↔ RaisesInvalid i.row := by
  refine ⟨fun ⟨t, h, ht⟩ => raisesInvalid_of_exec hs h ht, fun hr => ?_⟩
  have hx : exec i s = invalidRow s := by
    rcases hr with ⟨rm, hr⟩ | ⟨k, rm, hr⟩
    · exact exec_direct_invalid hr s
    · exact exec_mem_invalid hr s
  exact ⟨_, hx.trans (invalidRow_eq s), rfl, rfl⟩

/-! ## The ModRM bytes that are such rows -/

theorem decodeRm_raisesInvalid_iff (c : Ctx) (v : ModRM) : RaisesInvalid (decodeRm c v).row ↔
    (v.mod = 3#2 ∧ c.memOnly = true) ∨ (v.mod ≠ 3#2 ∧ v.rm ≠ 4#3 ∧ c.rexX = true) := by
  rcases mod_cases v.mod with hm | ⟨k, hm⟩
  · rw [decodeRm_direct hm]
    cases c.memOnly <;> simp [RaisesInvalid, Instr.row, hm]
  · by_cases hr : v.rm = 4#3
    · rw [decodeRm_follows hm hr]
      simp [RaisesInvalid, hm, hr]
    · rw [decodeRm_mem hm hr]
      simp [RaisesInvalid, memInstr_row _ _ _ hr, hm, hr]

/-- Such a row is fetched at the rm operand only, from the ModRM byte read before. -/
theorem fetch_raisesInvalid_iff (s : State) : (∃ i, s.fetch = .ok i ∧ RaisesInvalid i.row) ↔
    s.stage = .rm ∧ ∃ v, s.modrm = some v ∧ RaisesInvalid (decodeRm s.ctx v).row := by
  constructor
  · rintro ⟨i, hf, hr⟩
    have hs : s.stage = .rm := by
      have hread := (fetch_ok hf).rowReadAt
      rcases hr with ⟨rm, hr⟩ | ⟨k, rm, hr⟩ <;> rw [hr] at hread <;> exact hread
    refine ⟨hs, ?_⟩
    cases hv : s.modrm with
    | none => simp [State.fetch, State.formBytes, State.ctx, hs, hv, decode] at hf
    | some v =>
      rw [fetch_rm hs hv] at hf
      cases hf
      exact ⟨v, rfl, hr⟩
  · rintro ⟨hs, v, hv, hr⟩
    exact ⟨_, fetch_rm hs hv, hr⟩

theorem step_endedInvalid_iff {s : State} (hs : s.stage ≠ .idle) (hq : s.quiet = true) :
    (∃ t, step s = .next t ∧ t.EndedInvalid) ↔ ∃ i, s.fetch = .ok i ∧ RaisesInvalid i.row := by
  have hstep : ∀ i, s.stage ≠ .fixed → s.fetch = .ok i → step s = exec i s := fun i hfix hf =>
    (step_call hs hq).trans (callStep_ok hfix hf)
  constructor
  · rintro ⟨t, h, ht⟩
    cases step_next_call hs h with
    | row i t hf hfix => exact ⟨i, hf, (exec_endedInvalid_iff hs i).mp ⟨t, hstep i hfix hf ▸ h, ht⟩⟩
    | truncated | fixed | reset => nomatch ht.2
  · rintro ⟨i, hf, hr⟩
    have hrm : s.stage = .rm := ((fetch_raisesInvalid_iff s).mp ⟨i, hf, hr⟩).1
    rw [hstep i (by simp [hrm]) hf]
    exact (exec_endedInvalid_iff hs i).mpr hr

theorem State.memOnly_iff (s : State) : s.memOnly = true ↔ ∃ d, s.desc = some d ∧ d.m.isSome = true := by
  cases h : s.desc <;> simp [State.memOnly, h]

/-- Settles O21: a step ends the call with InvalidEncoding when it fetches a row that raises it, and the ModRM bytes of
those rows are the two causes. -/
theorem invalidEncodingHasExactlyTwoCauses : Obligations.InvalidEncodingHasExactlyTwoCauses := by
  intro s hs hq
  refine (step_endedInvalid_iff hs hq).trans ((fetch_raisesInvalid_iff s).trans ?_)
  simp only [decodeRm_raisesInvalid_iff, ← s.memOnly_iff]
  rfl

end Sys2Proof.Machine
end

section
/-! SUPPORT. The prefix scan: what a PREFIX row does to PFX, and a run of the scan over a string of prefix bytes
(40_prefix_scanner.md R140 to R155). -/

namespace Sys2Proof.Machine

/-- The row a byte that is no prefix begins at `scan` is REX or an opcode row. -/
theorem decode_row_ne_pfx {p : Params} {c : Ctx} {v : Byte} {rest : List Byte} {i : Instr} (hs : c.stage = .scan)
    (hv : p.prefixOf v = none) (h : decode p c (v :: rest) = .ok i) (f : PfxFlag) : i.row ≠ .pfx f := by
  cases hr : isRexByte v with
  | true =>
    rw [decode_rex hs hv hr] at h
    cases h
    exact Row.noConfusion
  | false =>
    rw [decode_opcode (Ctx.opcodeBegins_iff.mpr (.inr ⟨hs, hv, hr⟩))] at h
    obtain ⟨o, ho⟩ := decodeOpcode_ok h
    intro hi
    simp [hi, opcodeOf] at ho

/-- Settles O10: each row of the list is the PREFIX row of the flag beside it, and a PREFIX row that finds its byte
completes. -/
theorem prefixRowsSetTheirFlag : Obligations.PrefixRowsSetTheirFlag := by
  intro s q hp hq
  have hrow : q.1.row = .pfx q.2 := by
    clear hp
    revert q
    decide
  exact ⟨s.pfx.set q.2, (exec_pfx hrow s).trans (pfxRow_of_lt hp q.2), s.pfx.get_set q.2⟩

/-- One step of the scan: a prefix byte at the cursor sets its flag and is consumed (R140). -/
theorem step_prefix {s : State} {f : PfxFlag} (hs : s.stage = .scan) (hq : s.quiet = true) (hl : s.pos < s.len)
    (hf : s.cfg.prefixOf (s.buf.read s.pos) = some f) :
    step s = .next { s with pfx := s.pfx.set f, pos := s.pos + 1 } := by
  have hfetch : s.fetch = .ok (pfxInstr f) := by rw [fetch_scan hs hl, hf]
  calc step s = callStep s := step_call (by simp [hs]) hq
    _ = exec (pfxInstr f) s := callStep_ok (by simp [hs]) hfetch
    _ = pfxRow f s := exec_pfx (pfxInstr_row f) s
    _ = _ := pfxRow_of_lt hl f

theorem runSteps_succ {s t : State} (h : step s = .next t) (n : Nat) : runSteps (n + 1) s = runSteps n t := by
  simp [runSteps, h]

/-- `n` steps over `n` prefix bytes consume them and set the flags they name, and no other. -/
theorem runSteps_prefixes (n : Nat) (s : State) (hs : s.stage = .scan) (hq : s.quiet = true) (hn : s.pos + n ≤ s.len)
    (hpre : ∀ k, k < n → (s.cfg.prefixOf (s.buf.read (s.pos + k))).isSome = true) :
    ∃ q : PrefixSet, runSteps n s = .next { s with pfx := q, pos := s.pos + n } ∧
      ∀ f, q.get f = true ↔
        s.pfx.get f = true ∨ ∃ k, k < n ∧ s.cfg.prefixOf (s.buf.read (s.pos + k)) = some f := by
  induction n generalizing s with
  | zero => exact ⟨s.pfx, rfl, by simp⟩
  | succ n ih =>
    have hshift : ∀ k, s.pos + 1 + k = s.pos + (k + 1) := fun k => by omega
    obtain ⟨hfirst, hrest⟩ := Nat.forall_lt_succ_left.mp hpre
    obtain ⟨g, hg : s.cfg.prefixOf (s.buf.read s.pos) = some g⟩ := Option.isSome_iff_exists.mp hfirst
    obtain ⟨q, hrun, hflags⟩ := ih { s with pfx := s.pfx.set g, pos := s.pos + 1 } hs hq (by dsimp only; omega)
      (by simpa only [hshift] using hrest)
    simp only [hshift] at hrun hflags
    refine ⟨q, (runSteps_succ (step_prefix hs hq (by omega) hg) n).trans hrun, fun f => ?_⟩
    rw [hflags f]
    simp only [Nat.exists_lt_succ_left, Nat.add_zero, hg, PrefixSet.get_set, Bool.or_eq_true, decide_eq_true_eq,
      Option.some.injEq, eq_comm (a := g)]
    tauto

/-- Settles O51: the run over the prefix bytes stops at a byte that begins REX or the opcode. -/
theorem prefixScanConsumesExactlyThePrefixes : Obligations.PrefixScanConsumesExactlyThePrefixes := by
  intro n s hs hq hn hpre hend
  obtain ⟨q, hrun, hflags⟩ := runSteps_prefixes n s hs hq hn.le hpre
  refine ⟨q, hrun, hflags, fun i hi => ?_⟩
  rw [State.bytesFrom_cons hn] at hi
  exact decode_row_ne_pfx rfl hend hi

end Sys2Proof.Machine
end

section
/-! SUPPORT. REXDEC at the byte after the prefixes, and the opcode after it (41_rex_decoder.md R160, R162, R163). -/

namespace Sys2Proof.Machine

/-! ## The REX row -/

/-- Settles O11: the row is the shared REX operation, and its byte is there. -/
theorem rexRowWritesRex : Obligations.RexRowWritesRex := by
  intro s w r x b hp
  exact (exec_rexByte rfl s).trans (rexRow_of_lt hp w r x b)

/-! ## The opcode begins at the cursor -/

/-- An opcode row ends the prefix scan itself, so it does the same where the scan has ended. -/
theorem opcodeRow_endScan (o : OpcBytes) (s : State) : opcodeRow o s.endScan = opcodeRow o s := rfl

theorem exec_endScan {s : State} {i : Instr} {o : OpcBytes} (ho : opcodeOf s.cfg i.row = some o) :
    exec i s.endScan = exec i s :=
  calc exec i s.endScan = opcodeRow o s.endScan := (exec_opcodeOf (s := s.endScan) ho).1
    _ = opcodeRow o s := opcodeRow_endScan o s
    _ = exec i s := (exec_opcodeOf ho).1.symm

/-- A byte at the cursor that runs out within the opcode is Truncated alike, the scan ended or not. -/
theorem truncatedFetch_endScan {s : State} (hp : s.pos < s.len) : truncatedFetch s.endScan = truncatedFetch s := by
  have hl : ¬ s.len ≤ s.pos := Nat.not_le.mpr hp
  simp only [truncatedFetch_eq, State.endScan_len, State.endScan_pos, hl, and_false, if_false]
  rfl

/-- At `scan` a byte that is no prefix and no REX byte begins the opcode, un-consumed (R162). -/
theorem fetch_endScan {s : State} (hs : s.stage = .scan) (hp : s.pos < s.len)
    (hv : s.cfg.prefixOf (s.buf.read s.pos) = none) (hr : isRexByte (s.buf.read s.pos) = false) :
    s.fetch = decodeOpcode s.cfg (s.buf.read s.pos) (s.bytesFrom 2 (s.pos + 1)) ∧ s.endScan.fetch = s.fetch := by
  have hscan : s.fetch = decodeOpcode s.cfg (s.buf.read s.pos) (s.bytesFrom 2 (s.pos + 1)) := by
    simp [fetch_scan hs hp, hv, hr]
  exact ⟨hscan, (fetch_opcode (s := s.endScan) rfl hp).trans hscan.symm⟩

/-- With such a byte at the cursor a form of the call is the opcode row, read at `scan` or at `opcode`. -/
theorem callStep_endScan {s : State} (hs : s.stage = .scan) (hp : s.pos < s.len)
    (hv : s.cfg.prefixOf (s.buf.read s.pos) = none) (hr : isRexByte (s.buf.read s.pos) = false) :
    callStep s.endScan = callStep s := by
  obtain ⟨hopc, hend⟩ := fetch_endScan hs hp hv hr
  have hfix : s.stage ≠ .fixed := by simp [hs]
  have hfix' : s.endScan.stage ≠ .fixed := by simp
  cases hf : s.fetch with
  | ok i =>
    obtain ⟨o, ho⟩ := decodeOpcode_ok (hopc ▸ hf)
    rw [callStep_ok hfix hf, callStep_ok hfix' (hend.trans hf), exec_endScan ho]
  | error e =>
    cases e with
    | truncated =>
      rw [callStep_truncated hfix hf, callStep_truncated hfix' (hend.trans hf), truncatedFetch_endScan hp]
    | noForm => rw [callStep_noForm hfix hf, callStep_noForm hfix' (hend.trans hf)]

/-- Settles O8: the marker nibble decides between the REX row and the opcode. -/
theorem rexDecoderReadsOneOptionalByte : Obligations.RexDecoderReadsOneOptionalByte := by
  intro s hs hq hp hv
  have hstep : step s = callStep s := step_call (by simp [hs]) hq
  refine ⟨fun hnib => ?_, fun hnib => ?_⟩
  · have hr : isRexByte (s.buf.read s.pos) = true := (isRexByte_iff _).mpr hnib
    have hf : s.fetch = .ok (rexInstr (s.buf.read s.pos)) := by simp [fetch_scan hs hp, hv, hr]
    rw [hstep, callStep_ok (by simp [hs]) hf]
    exact rexRowWritesRex s _ _ _ _ hp
  · have hr : isRexByte (s.buf.read s.pos) = false := Bool.eq_false_iff.mpr fun h => hnib ((isRexByte_iff _).mp h)
    calc step s = callStep s := hstep
      _ = callStep s.endScan := (callStep_endScan hs hp hv hr).symm
      _ = step s.endScan := (step_call (s := s.endScan) (by simp) hq).symm

/-- Settles O9: at `opcode` the prefix list and the nibble are not asked, and a byte other than ESC is an opcode. -/
theorem afterRexEveryByteIsAnOpcode : Obligations.AfterRexEveryByteIsAnOpcode := by
  rintro s _ hs hq hp rfl hesc
  have hf : s.fetch = .ok (oneByteInstr (s.buf.read s.pos)) := by
    rw [fetch_opcode hs hp, decodeOpcode_one hesc]
  calc step s = callStep s := step_call (by simp [hs]) hq
    _ = exec (oneByteInstr (s.buf.read s.pos)) s := callStep_ok (by simp [hs]) hf

end Sys2Proof.Machine
end

section
/-! SUPPORT. REX is read through its four bits and the side output alone, so present with all bits 0 and absent are one
(10_state.md R35; 41_rex_decoder.md R160). What reads no bit takes any two values of REX to outcomes that differ in REX
and its half of the side output alone; what reads a bit finds 0 in both. -/

namespace Sys2Proof.Machine

/-- REX after a byte 40. -/
def RexFlags.zero : RexFlags := { w := false, r := false, x := false, b := false }

/-! ## The states that a call leaves -/

theorem mapNext_raiseError_withoutRex (s : State) (r : Option RexFlags) (e : DecodeError) :
    mapNext State.withoutRex (.next (State.raiseError { s with rex := r } e)) =
      mapNext State.withoutRex (.next (s.raiseError e)) :=
  congrArg Host.Outcome.next (raiseError_withoutRex s r e)

theorem truncatedFetch_withoutRex (s : State) (r : Option RexFlags) :
    (truncatedFetch { s with rex := r }).withoutRex = (truncatedFetch s).withoutRex := by
  simp only [truncatedFetch_eq]
  split <;> rfl

/-! ## The cursor primitives carry REX along -/

theorem skip_withRex (s : State) (r : Option RexFlags) (n : Nat) :
    State.skip { s with rex := r } n = (s.skip n).map fun t => { t with rex := r } := by
  simp only [State.skip]
  split <;> rfl

theorem readU8_withRex (s : State) (r : Option RexFlags) :
    State.readU8 { s with rex := r } = s.readU8.map fun a => (a.1, { a.2 with rex := r }) := by
  simp only [State.readU8]
  split <;> rfl

theorem readDisp_withRex (s : State) (r : Option RexFlags) (k : MemMod) :
    State.readDisp { s with rex := r } k = (s.readDisp k).map fun a => (a.1, { a.2 with rex := r }) := by
  cases k with
  | m0 => rfl
  | m1 => simp only [State.readDisp, State.readI8]; split <;> rfl
  | m2 => simp only [State.readDisp, State.readI32]; split <;> rfl

/-! ## The rows that read no bit of REX -/

theorem opcodeRow_withoutRex (o : OpcBytes) (s : State) (r : Option RexFlags) :
    mapNext State.withoutRex (opcodeRow o { s with rex := r }) = mapNext State.withoutRex (opcodeRow o s) := by
  simp only [opcodeRow, show State.endScan { s with rex := r } = { s.endScan with rex := r } from rfl, skip_withRex]
  cases s.endScan.skip o.count with
  | none => exact mapNext_raiseError_withoutRex s.endScan r .truncated
  | some t =>
    cases o.entry s.cfg with
    | none => exact mapNext_raiseError_withoutRex t r .unknownOpcode
    | some d => simp only [resolve, Option.map_some]; split <;> rfl

theorem pfxRow_withoutRex (f : PfxFlag) (s : State) (r : Option RexFlags) :
    mapNext State.withoutRex (pfxRow f { s with rex := r }) = mapNext State.withoutRex (pfxRow f s) := by
  simp only [pfxRow, skip_withRex]
  cases s.skip 1 with
  | none => exact mapNext_raiseError_withoutRex s r .truncated
  | some t => rfl

/-- The REX row overwrites REX. -/
theorem rexRow_withoutRex (w r x b : Bool) (s : State) (q : Option RexFlags) :
    mapNext State.withoutRex (rexRow w r x b { s with rex := q }) = mapNext State.withoutRex (rexRow w r x b s) := by
  simp only [rexRow, skip_withRex]
  cases s.skip 1 with
  | none => exact mapNext_raiseError_withoutRex s q .truncated
  | some t => rfl

theorem followsRow_withoutRex (s : State) (r : Option RexFlags) :
    mapNext State.withoutRex (followsRow { s with rex := r }) = mapNext State.withoutRex (followsRow s) := by
  simp only [followsRow, readU8_withRex]
  cases s.readU8 with
  | none => exact mapNext_raiseError_withoutRex s r .truncated
  | some a => rfl

/-- A memory operand reads REX only through the expression `f` it is given. -/
theorem memOp_withoutRex (k : MemMod) (f : OperandDescriptor → Option Int → MemoryExpr) (s : State)
    (r : Option RexFlags) :
    mapNext State.withoutRex (memOp k f { s with rex := r }) = mapNext State.withoutRex (memOp k f s) := by
  simp only [memOp, readDisp_withRex, show State.opRole { s with rex := r } = s.opRole from rfl]
  cases s.opRole with
  | none => rfl
  | some o =>
    cases s.readDisp k with
    | none => exact mapNext_raiseError_withoutRex s r .truncated
    | some a => rfl

/-! ## What reads a bit of REX: all bits 0 against absent -/

/-- The rows' conditions on REX.x and REX.b find 0 in both. -/
theorem fetch_rexZero (s : State) :
    State.fetch { s with rex := some RexFlags.zero } = State.fetch { s with rex := none } := rfl

theorem regRow_rexZero (mod : BitVec 2) (reg rm : BitVec 3) (s : State) :
    mapNext State.withoutRex (regRow mod reg rm { s with rex := some RexFlags.zero }) =
      mapNext State.withoutRex (regRow mod reg rm { s with rex := none }) := by
  simp only [regRow, skip_withRex, show ∀ r, State.regRole { s with rex := r } = s.regRole from fun _ => rfl]
  cases s.skip 1 with
  | none => exact mapNext_raiseError_withoutRex { s with rex := none } (some RexFlags.zero) .truncated
  | some t => cases s.regRole <;> rfl

theorem directRow_rexZero (rm : BitVec 3) (s : State) :
    mapNext State.withoutRex (directRow rm { s with rex := some RexFlags.zero }) =
      mapNext State.withoutRex (directRow rm { s with rex := none }) := by
  simp only [directRow, show ∀ r, State.opRole { s with rex := r } = s.opRole from fun _ => rfl]
  cases s.opRole <;> rfl

/-- Every row, by its format; the registers of a memory row are those of REX absent. -/
theorem exec_rexZero (i : Instr) (s : State) :
    mapNext State.withoutRex (exec i { s with rex := some RexFlags.zero }) =
      mapNext State.withoutRex (exec i { s with rex := none }) := by
  have hmem := fun k f => memOp_withoutRex k f { s with rex := none } (some RexFlags.zero)
  rcases row_cases i { s with rex := none } with ⟨o, hr, e⟩ | ⟨f, hr, e⟩ | ⟨w, r, x, b, hr, e⟩ |
    ⟨mod, reg, rm, hr, e⟩ | ⟨hr, e⟩ | ⟨rm, hr, e⟩ | ⟨k, hr, e⟩ | ⟨k, rm, hr, e⟩ | ⟨k, idx, bs, ss, hr, e⟩ |
    ⟨idx, bs, ss, hr, e⟩ | ⟨k, idx, bs, ss, hr, hk, e⟩ <;> rw [e]
  · rw [(exec_opcodeOf (s := { s with rex := some RexFlags.zero }) hr).1]
    exact opcodeRow_withoutRex o { s with rex := none } _
  · rw [exec_pfx hr]; exact pfxRow_withoutRex f { s with rex := none } _
  · rw [exec_rexByte hr]; exact rexRow_withoutRex w r x b { s with rex := none } _
  · rw [exec_reg hr]; exact regRow_rexZero mod reg rm s
  · have hinvalid := mapNext_raiseError_withoutRex { s with rex := none } (some RexFlags.zero) .invalidEncoding
    rcases hr with ⟨rm, hr⟩ | ⟨k, rm, hr⟩
    · rw [exec_direct_invalid hr]; exact hinvalid
    · rw [exec_mem_invalid hr]; exact hinvalid
  · rw [exec_direct hr]; exact directRow_rexZero rm s
  · rw [exec_follows hr]; exact followsRow_withoutRex { s with rex := none } _
  · rw [exec_mem hr]; exact hmem k _
  · rw [exec_sib hr]; exact hmem k _
  · rw [exec_sib_noBase hr]; exact hmem .m2 _
  · rw [exec_sib_base5 hr hk]; exact hmem k _

/-! ## The step -/

/-- FIXRES selects by REX.b, 0 in both. -/
theorem fixresAndReturn_rexZero (s : State) :
    mapNext State.withoutRex (fixresAndReturn { s with rex := some RexFlags.zero }) =
      mapNext State.withoutRex (fixresAndReturn { s with rex := none }) := by
  simp only [fixresAndReturn, show State.rexB { s with rex := some RexFlags.zero } = false from rfl,
    show State.rexB { s with rex := none } = false from rfl]
  split
  · split
    · exact congrArg Host.Outcome.next (returnOk_withoutRex { s with rex := none } (some RexFlags.zero) _)
    · rfl
  · rfl

theorem callStep_rexZero (s : State) :
    mapNext State.withoutRex (callStep { s with rex := some RexFlags.zero }) =
      mapNext State.withoutRex (callStep { s with rex := none }) := by
  simp only [callStep, fetch_rexZero]
  split
  · exact fixresAndReturn_rexZero s
  · split
    · exact exec_rexZero _ s
    · exact congrArg Host.Outcome.next (truncatedFetch_withoutRex { s with rex := none } (some RexFlags.zero))
    · rfl

/-- Settles O50: a reset and a refused start do not see REX, and a form of the call finds every bit 0. -/
theorem rexAllZeroActsAsAbsent : Obligations.RexAllZeroActsAsAbsent := by
  intro s hs hrex
  have habsent : s = { s with rex := none } := by rw [← hrex]
  rcases step_call_cases hs with ⟨rest, hh, e⟩ | ⟨rest, hh, e⟩ | ⟨hq, e⟩ <;> rw [e]
  · rw [step_reset (s := { s with rex := some _ }) hs hh]; rfl
  · rw [step_start (s := { s with rex := some _ }) hs hh]
  · rw [step_call (s := { s with rex := some _ }) hs hq, habsent]
    exact callStep_rexZero s

end Sys2Proof.Machine
end

section
/-! SUPPORT. The opcode resolver: where an opcode runs out of bytes, and what an opcode row does when its bytes are
there (42_opcode_resolver.md R170 to R178). -/

namespace Sys2Proof.Machine

/-! ## Missing bytes -/

/-- A form that is short of bytes ends the call with Truncated. -/
theorem step_truncated {s : State} (hs : s.stage = .scan ∨ s.stage = .opcode ∨ s.stage = .modrm)
    (hq : s.quiet = true) (hf : s.fetch = .error .truncated) :
    step s = .next (errorState s s.sideAtEnd .truncated) := by
  obtain ⟨hidle, hfix⟩ : s.stage ≠ .idle ∧ s.stage ≠ .fixed := by rcases hs with h | h | h <;> simp [h]
  calc step s = callStep s := step_call hidle hq
    _ = .next (truncatedFetch s) := callStep_truncated hfix hf
    _ = _ := congrArg Host.Outcome.next (truncatedFetch_eq s)

theorem State.sideAtEnd_of_le {s : State} (hl : s.len ≤ s.pos) :
    s.sideAtEnd = if s.stage = .scan then none else some { pfx := s.pfx, rex := s.rex } := by
  simp [State.sideAtEnd, hl]

theorem State.sideAtEnd_of_lt {s : State} (hl : s.pos < s.len) : s.sideAtEnd = some { pfx := s.pfx, rex := s.rex } := by
  simp [State.sideAtEnd, Nat.not_le.mpr hl]

/-- The byte at the cursor begins the opcode, at `opcode` or at the end of the scan. -/
theorem fetch_opcodeBegins {s : State} (hl : s.pos < s.len)
    (hc : s.ctx.opcodeBegins s.cfg (s.buf.read s.pos) = true) :
    s.fetch = decodeOpcode s.cfg (s.buf.read s.pos) (s.bytesFrom 2 (s.pos + 1)) := by
  have hs : s.stage = .scan ∨ s.stage = .opcode ∨ s.stage = .modrm := by
    rcases Ctx.opcodeBegins_iff.mp hc with hs | ⟨hs, -⟩
    · exact .inr (.inl hs)
    · exact .inl hs
  rw [State.fetch, State.formBytes_stream hs, State.bytesFrom_cons hl, decode_opcode hc]

/-- ESC with nothing after it, or with a selector and nothing after that, is no opcode yet. -/
theorem decodeOpcode_esc_truncated {p : Params} {rest : List Byte}
    (h : rest = [] ∨ ∃ o2, rest = [o2] ∧ (o2 = p.selA ∨ o2 = p.selB)) :
    decodeOpcode p p.esc rest = .error .truncated := by
  rcases h with rfl | ⟨_, rfl, rfl | rfl⟩ <;> simp [decodeOpcode]

/-- Settles O7: with no byte left nothing is fetched, and after ESC the opcode decoder runs out of bytes. -/
theorem missingBytesRaiseTruncated : Obligations.MissingBytesRaiseTruncated := by
  refine ⟨fun s hs hq hl => ?_, fun s hs hq hesc hlen => ?_⟩
  · rw [step_truncated hs hq (fetch_end hs hl), State.sideAtEnd_of_le hl]
  · have hl : s.pos < s.len := by omega
    have hstage : s.stage = .scan ∨ s.stage = .opcode ∨ s.stage = .modrm := by tauto
    have hc : s.ctx.opcodeBegins s.cfg (s.buf.read s.pos) = true := by
      rw [hesc]; exact Ctx.opcodeBegins_iff.mpr hs
    have hrest : s.bytesFrom 2 (s.pos + 1) = [] ∨
        ∃ o2, s.bytesFrom 2 (s.pos + 1) = [o2] ∧ (o2 = s.cfg.selA ∨ o2 = s.cfg.selB) := by
      rcases hlen with hlen | ⟨hlen, hsel⟩
      · exact .inl (State.bytesFrom_nil hlen.le 2)
      · refine .inr ⟨_, ?_, hsel⟩
        rw [State.bytesFrom_cons (by omega), State.bytesFrom_nil (by omega)]
    have hf : s.fetch = .error .truncated := by
      rw [fetch_opcodeBegins hl hc, hesc, decodeOpcode_esc_truncated hrest]
    rw [step_truncated hstage hq hf, State.sideAtEnd_of_lt hl]

/-! ## The bytes are there -/

/-- An opcode row with its bytes there whose cell is well-formed resolves it. -/
theorem exec_opcodeOf_resolved {s : State} {i : Instr} {o : OpcBytes} {d : OpcodeDescriptor}
    (ho : opcodeOf s.cfg i.row = some o) (hp : s.pos + o.count ≤ s.len) (hc : cellOf s.cfg o = some d)
    (hd : d.wf s.cfg.nslot = true) : exec i s = .next (resolvedState s o o.count d) :=
  (exec_opcodeOf ho).1.trans (opcodeRow_resolved hp ((OpcBytes.entry_eq o s.cfg).trans hc) hd)

/-- Settles O12: the six rows are the opcode rows of one, two and three bytes. -/
theorem opcodeRowsResolveTheirDescriptor : Obligations.OpcodeRowsResolveTheirDescriptor := by
  intro s d hd
  exact ⟨fun o1 hp hc => exec_opcodeOf_resolved rfl hp hc hd, fun hp hc => exec_opcodeOf_resolved rfl hp hc hd,
    fun hp hc => exec_opcodeOf_resolved rfl hp hc hd, fun o2 hp hc => exec_opcodeOf_resolved rfl hp hc hd,
    fun o3 hp hc => exec_opcodeOf_resolved rfl hp hc hd, fun o3 hp hc => exec_opcodeOf_resolved rfl hp hc hd⟩

/-- Settles O13: every opcode row is the one shared operation, and that raises UnknownOpcode for an empty cell. -/
theorem missingEntryIsUnknownOpcode : Obligations.MissingEntryIsUnknownOpcode := by
  intro s i o ho hp hc
  obtain ⟨hx, hcount⟩ := exec_opcodeOf (s := s) ho
  rw [hx]
  exact opcodeRow_unknown (hcount ▸ hp) ((OpcBytes.entry_eq o s.cfg).trans hc)

/-- A call that has ended with UnknownOpcode. -/
def State.EndedUnknown (t : State) : Prop := t.stage = .idle ∧ t.result = some (.error .unknownOpcode)

@[simp] theorem resolvedState_stage_ne_idle (s : State) (o : OpcBytes) (n : Nat) (d : OpcodeDescriptor) :
    (resolvedState s o n d).stage ≠ .idle := by
  cases hm : d.modrm <;> simp [resolvedState, hm]

/-- What an opcode row with its bytes there leaves is given by its cell: DESC is the cell, and an empty cell, and that
only, is UnknownOpcode. -/
theorem desc_eq_cellOf_of_exec {s t : State} {i : Instr} {o : OpcBytes} (ho : opcodeOf s.cfg i.row = some o)
    (hp : s.pos + i.row.consumes ≤ s.len) (h : exec i s = .next t) :
    t.desc = cellOf s.cfg o ∧ (t.EndedUnknown ↔ cellOf s.cfg o = none) := by
  cases hc : cellOf s.cfg o with
  | none =>
    rw [missingEntryIsUnknownOpcode s i o ho hp hc] at h
    cases h
    exact ⟨rfl, by simp [State.EndedUnknown, errorState, State.result]⟩
  | some d =>
    cases hd : d.wf s.cfg.nslot with
    | false => rw [illFormedDescriptorIsRefused s i o d ho hp hc hd] at h; cases h
    | true =>
      rw [exec_opcodeOf_resolved ho ((exec_opcodeOf (s := s) ho).2 ▸ hp) hc hd] at h
      cases h
      exact ⟨rfl, by simp [State.EndedUnknown]⟩

/-- Settles O15: both outcomes are given by the cell of the opcode bytes, which both states share. -/
theorem opcodeResolutionIsPure : Obligations.OpcodeResolutionIsPure := by
  intro s s' t t' i o hcfg ho hp hp' h h'
  obtain ⟨hdesc, hunknown⟩ := desc_eq_cellOf_of_exec ho hp h
  obtain ⟨hdesc', hunknown'⟩ := desc_eq_cellOf_of_exec (hcfg ▸ ho) hp' h'
  rw [← hcfg] at hdesc' hunknown'
  exact ⟨hdesc.trans hdesc'.symm, hunknown.trans hunknown'.symm⟩

end Sys2Proof.Machine
end

section
/-! SUPPORT. The addressing mode: the row the ModRM byte fetches, the reg and the register operand, the base register
with no SIB byte, and the two forms that are InvalidEncoding (43_addressing_mode.md R190 to R200). -/

namespace Sys2Proof.Machine

/-! ## What the descriptor gives -/

theorem State.regRole_of_desc {s : State} {d : OpcodeDescriptor} (hd : s.desc = some d) :
    s.regRole = d.deref d.r := by
  simp [State.regRole, hd]

theorem State.opRole_of_desc {s : State} {d : OpcodeDescriptor} (hd : s.desc = some d) :
    s.opRole = d.deref d.opRole := by
  simp [State.opRole, hd]

theorem State.memOnly_of_desc {s : State} {d : OpcodeDescriptor} (hd : s.desc = some d) :
    s.memOnly = d.m.isSome := by
  simp [State.memOnly, hd]

/-! ## The register operands -/

/-- Settles O16: the row is the shared operation on the ModRM fields, and its byte is there. -/
theorem regRowStoresTheRegOperand : Obligations.RegRowStoresTheRegOperand := by
  intro s mod reg rm d o l hd ho hl hp
  rw [exec_reg rfl, regRow_of_lt hp ((State.regRole_of_desc hd).trans ho), hl, Option.map_some]

/-- Settles O17: the row is the shared operation on the rm field, which reads REX.b alone. -/
theorem regdirectRowStoresARegister : Obligations.RegdirectRowStoresARegister := by
  intro s rm d o l hd ho hl
  rw [exec_direct rfl, directRow_eq ((State.opRole_of_desc hd).trans ho), hl, Option.map_some]

/-! ## The base register with no SIB byte -/

/-- With `mod` 0 no byte is read, so a memory operand is stored wherever the cursor stands. -/
theorem memOp_m0 {s : State} {o : OperandDescriptor} {l : List (Option Operand)} (ho : s.opRole = some o)
    (hl : s.slots = some l) (e : OperandDescriptor → Option Int → MemoryExpr) :
    memOp .m0 e s = .next (memState s .m0 o.index l (e o none)) := by
  simp only [memOp, ho, State.readDisp, storeOp, State.setSlot, hl, Option.map_some]
  rfl

/-- Settles O23: the row stores the base expression without a displacement. -/
theorem noSibRowsMod0StoreTheBase : Obligations.NoSibRowsMod0StoreTheBase := by
  intro s i rm d o l hr hd ho hl
  rw [exec_mem hr, memRow, memOp_m0 ((State.opRole_of_desc hd).trans ho) hl, regdes_ext4]
  rfl

/-- Settles O24: the row stores the base expression with the displacement at the cursor. -/
theorem noSibRowsMod12StoreBaseAndDisplacement : Obligations.NoSibRowsMod12StoreBaseAndDisplacement := by
  intro s i k rm d o l x hr hd ho hl hp hx
  rw [exec_mem hr, memRow, memOp_of_le ((State.opRole_of_desc hd).trans ho) hl hp, regdes_ext4, hx]
  rfl

/-! ## The forms that are InvalidEncoding -/

/-- A row that raises InvalidEncoding does so from every state. -/
theorem exec_of_raisesInvalid {i : Instr} (h : RaisesInvalid i.row) (s : State) :
    exec i s = .next (errorState s s.sideNow .invalidEncoding) := by
  rw [← invalidRow_eq]
  rcases h with ⟨rm, hr⟩ | ⟨k, rm, hr⟩
  · exact exec_direct_invalid hr s
  · exact exec_mem_invalid hr s

/-- Settles O18: the side output of an error is the one of the stage. -/
theorem invalidRowsRaiseInvalidEncoding : Obligations.InvalidRowsRaiseInvalidEncoding := by
  intro s i h
  rw [exec_of_raisesInvalid h, sideNow_eq]

/-- At the rm operand a step is the row of the ModRM byte read before. -/
theorem step_rm {s : State} {v : ModRM} (hs : s.stage = .rm) (hq : s.quiet = true) (hv : s.modrm = some v) :
    step s = exec (decodeRm s.ctx v) s :=
  calc step s = callStep s := step_call (by simp [hs]) hq
    _ = exec (decodeRm s.ctx v) s := callStep_ok (by simp [hs]) (fetch_rm hs hv)

/-- A ModRM byte of either cause ends the call, PFX and REX shown; no displacement is read. -/
theorem step_rm_invalid {s : State} {v : ModRM} (hs : s.stage = .rm) (hq : s.quiet = true) (hv : s.modrm = some v)
    (h : (v.mod = 3#2 ∧ s.memOnly = true) ∨ (v.mod ≠ 3#2 ∧ v.rm ≠ 4#3 ∧ s.rexX = true)) :
    step s = .next (errorState s (some { pfx := s.pfx, rex := s.rex }) .invalidEncoding) := by
  have hside : s.sideNow = some { pfx := s.pfx, rex := s.rex } := by simp [sideNow_eq, hs]
  rw [step_rm hs hq hv, exec_of_raisesInvalid ((decodeRm_raisesInvalid_iff s.ctx v).mpr h), hside]

/-- Settles O19: it is the second cause, whatever bytes remain. -/
theorem rexXWithoutSibIsInvalid : Obligations.RexXWithoutSibIsInvalid := by
  intro s v hs hq hv hmod hrm hx
  exact step_rm_invalid hs hq hv (.inr ⟨hmod, hrm, hx⟩)

/-- Settles O20: `mod` 3 with an `m` operand is the first cause; without one the byte is a MODRM_REGDIRECT row. -/
theorem registerFormOfMemoryOnlyOpcodeIsInvalid : Obligations.RegisterFormOfMemoryOnlyOpcodeIsInvalid := by
  intro s v d hs hq hv hmod hd
  have hm : s.ctx.memOnly = d.m.isSome := State.memOnly_of_desc hd
  refine ⟨fun h => step_rm_invalid hs hq hv (.inl ⟨hmod, hm.trans h⟩), fun h => ?_⟩
  rw [step_rm hs hq hv, decodeRm_direct hmod, if_neg (by simp [hm, h])]

end Sys2Proof.Machine
end

section
/-! SUPPORT. The SIB forms: how a SIB byte splits, what each SIB row stores, and what raw index 4 leaves out
(44_sib.md R220 to R228). -/

namespace Sys2Proof.Machine

/-! ## The SIB byte -/

theorem toNat_byteOfFields (hi : BitVec 2) (mid lo : BitVec 3) :
    (byteOfFields hi mid lo).toNat = hi.toNat * 64 + mid.toNat * 8 + lo.toNat := by
  revert hi mid lo; decide

theorem Sib.toNat_toByte (x : Sib) : x.toByte.toNat = x.ss.toNat * 64 + x.idx.toNat * 8 + x.bs.toNat :=
  toNat_byteOfFields x.ss x.idx x.bs

/-- Settles O22: the row is the shared operation, its byte is there, and the fields are those of the byte. -/
theorem sibFollowsRowsReadTheSibByte : Obligations.SibFollowsRowsReadTheSibByte := by
  intro s i k hr hp
  refine ⟨Sib.ofByte (s.buf.read s.pos), (exec_follows hr s).trans (followsRow_of_lt hp), ?_⟩
  rw [← Sib.toNat_toByte, Sib.toByte_ofByte]

/-! ## What the SIB rows store -/

theorem baseExpr_disp_none {t : Option IndexTerm} {parts : List Part} (h : indexParts t = parts) (base : Designator) :
    baseExpr base t none = { base := some base, index := t, disp := none, lst := [.r base] ++ parts } := by
  simp [baseExpr, dispParts, h]

/-- Settles O25: the row stores the base expression without a displacement. -/
theorem sibRowsMod0StoreBaseAndIndex : Obligations.SibRowsMod0StoreBaseAndIndex := by
  intro s i idx bs ss d o l hr hd ho hl
  rw [exec_sib hr, sibBaseRow, memOp_m0 ((State.opRole_of_desc hd).trans ho) hl, regdes_ext4, indexTerm_eq]
  congr 2
  exact baseExpr_disp_none (indexParts_eq _) _

/-- Settles O26: the row stores the base expression with the displacement at the cursor. -/
theorem sibRowsMod12StoreBaseIndexAndDisplacement : Obligations.SibRowsMod12StoreBaseIndexAndDisplacement := by
  intro s i k idx bs ss d o l x hr hd ho hl hp hx
  rw [exec_sib hr, sibBaseRow, memOp_of_le ((State.opRole_of_desc hd).trans ho) hl hp, regdes_ext4, indexTerm_eq, hx,
    baseExpr, indexParts_eq]
  rfl

/-- Settles O27: the row stores the expression without a base, and reads the displacement of `mod` 2. -/
theorem sibBase5RowsMod0StoreNoBase : Obligations.SibBase5RowsMod0StoreNoBase := by
  intro s i idx ss d o l x hr hd ho hl hp hx
  rw [exec_sib_noBase hr, sibNoBaseRow, memOp_of_le (k := .m2) ((State.opRole_of_desc hd).trans ho) hl hp,
    indexTerm_eq, hx, noBaseExpr, indexParts_eq]
  rfl

/-- Settles O28: the row stores the base expression with the register last in the list view; field 5 not extended is
register 5. -/
theorem sibBase5RowsMod12StoreRegisterFive : Obligations.SibBase5RowsMod12StoreRegisterFive := by
  intro s i k idx ss d o l x hr hk hd ho hl hp hx
  refine ⟨?_, fun hb => by rw [hb]; rfl⟩
  rw [exec_sib_base5 hr hk, sibBase5Row, memOp_of_le ((State.opRole_of_desc hd).trans ho) hl hp, regdes_ext4,
    indexTerm_eq, hx, base5Expr, indexParts_eq, List.append_assoc]
  rfl

/-! ## Without an index term -/

/-- Raw index 4 is no index, whatever REX.x and `ss` are (R222). -/
@[simp] theorem State.indexTerm_four (s : State) (kind : OperandKind) (ss : BitVec 2) :
    s.indexTerm kind 4#3 ss = none := if_pos rfl

theorem sibBaseRow_four (k : MemMod) (bs : BitVec 3) (ss : BitVec 2) (s : State) :
    sibBaseRow k 4#3 bs ss s = memRow k bs s := by
  simp only [sibBaseRow, memRow, State.indexTerm_four]

/-- A memory row that goes on with a memory expression in `op`'s slot has put it there. -/
theorem eq_of_memOp_next {s t : State} {k : MemMod} {f : OperandDescriptor → Option Int → MemoryExpr}
    {o : OperandDescriptor} {l : List (Option Operand)} {e : MemoryExpr} (h : memOp k f s = .next t)
    (ho : s.opRole = some o) (hl : t.slots = some l) (he : l[o.index]? = some (some (.mem e))) :
    e = f o (s.dispAt k) ∧ t.pos = s.pos + k.dispBytes := by
  rcases memOp_next h with ⟨-, rfl⟩ | ⟨o', ho', -, rfl⟩
  · nomatch hl
  · obtain rfl : o = o' := Option.some.inj (ho.symm.trans ho')
    obtain ⟨l', -, rfl⟩ := Option.map_eq_some_iff.mp hl
    obtain ⟨-, hset⟩ : _ ∧ f o (s.dispAt k) = e := by simpa [List.getElem?_set] using he
    exact ⟨hset.symm, rfl⟩

/-- Every SIB row stores a memory expression whose index is the index term of the SIB byte (R222). -/
theorem exec_sib_memOp {i : Instr} {k : MemMod} {idx bs : BitVec 3} {b5 : Bool} {ss : BitVec 2}
    (hr : i.row = .sib k idx bs b5 ss) (s : State) :
    ∃ k' f, exec i s = memOp k' f s ∧ ∀ o d, (f o d).index = s.indexTerm o.kind idx ss := by
  cases b5 with
  | false => exact ⟨k, _, exec_sib hr s, fun _ _ => rfl⟩
  | true =>
    by_cases hk : k = .m0
    · subst hk
      exact ⟨.m2, _, exec_sib_noBase hr s, fun _ _ => rfl⟩
    · exact ⟨k, _, exec_sib_base5 hr hk s, fun _ _ => rfl⟩

/-- Settles O30: raw index 4 makes the index term none, so the expressions agree but for the place of register 5 in the
list view. -/
theorem sibWithoutIndexIsTheNoSibForm : Obligations.SibWithoutIndexIsTheNoSibForm := by
  refine ⟨fun s i j k bs ss hi hj => ?_, fun s t u i j k ss o e f l m hi hj hk ho ht hu hl hm he hf => ?_,
    fun s t i k bs b5 ss o e l hi ho ht hl he => ?_⟩
  · rw [exec_sib hi, exec_mem hj, sibBaseRow_four]
  · obtain ⟨rfl, htpos⟩ := eq_of_memOp_next ((exec_sib_base5 hi hk s).symm.trans ht) ho hl he
    obtain ⟨rfl, hupos⟩ := eq_of_memOp_next ((exec_mem hj s).symm.trans hu) ho hm hf
    exact ⟨rfl, s.indexTerm_four o.kind ss, rfl, htpos.trans hupos.symm⟩
  · obtain ⟨k', f, hexec, hindex⟩ := exec_sib_memOp hi s
    obtain ⟨rfl, -⟩ := eq_of_memOp_next (hexec.symm.trans ht) ho hl he
    rw [hindex, State.indexTerm_four]

end Sys2Proof.Machine
end

section
/-! SUPPORT. FIXRES and the return (45_fixed_operand.md R250, R251, R254; 46_orchestrator.md R260): with a well-formed
descriptor every slot belongs to an operand, so none is left empty. -/

namespace Sys2Proof

/-- W1: the operand indices are all the places of the slot array. -/
theorem OpcodeDescriptor.exists_operand_of_wf {d : OpcodeDescriptor} {nslot : Option Nat} (h : d.wf nslot = true)
    {k : Nat} (hk : k < d.operands.length) : ∃ o ∈ d.operands, o.index = k := by
  have hsub : d.operands.map OperandDescriptor.index ⊆ List.range d.operands.length := fun j hj => by
    obtain ⟨o, ho, rfl⟩ := List.mem_map.mp hj
    exact List.mem_range.mpr (d.index_lt_of_wf h ho)
  have hperm : (d.operands.map OperandDescriptor.index).Perm (List.range d.operands.length) :=
    ((d.index_nodup_of_wf h).subperm hsub).perm_of_length_le (by simp)
  exact List.mem_map.mp (hperm.mem_iff.mpr (List.mem_range.mpr hk))

namespace Machine

/-- Of two literals REX.b selects the second (R250). -/
theorem selectLiteral_alt1 {o : OperandDescriptor} {x : Literal} (h : o.alt1 = some x) :
    selectLiteral o true = some x := by
  simp [selectLiteral, h]

/-- A single literal is selected whatever REX.b is, and the first of two where it is 0 (R250, R254). -/
theorem selectLiteral_alt0 {o : OperandDescriptor} {b : Bool} (h : o.alt1 = none ∨ b = false) :
    selectLiteral o b = o.alt0 := by
  rcases h with h | rfl
  · simp [selectLiteral, h]
  · cases h1 : o.alt1 <;> simp [selectLiteral, h1]

/-- Slots of which none is empty are a list of operands. -/
theorem exists_collectSlots_of_filled {l : List (Option Operand)} (h : ∀ x ∈ l, ∃ v, some v = x) :
    ∃ ops, collectSlots l = some ops := by
  obtain ⟨ops, hops⟩ : l ∈ Set.range (List.map some) := Set.range_list_map some ▸ h
  exact ⟨ops, collectSlots_eq_some.mpr hops.symm⟩

/-- Where every slot that ModRM decoding owes is filled, FIXRES leaves no slot empty (R250, R251). -/
theorem exists_collectSlots_fixSlots {b : Bool} {d : OpcodeDescriptor} {nslot : Option Nat} (h : d.wf nslot = true)
    {l : List (Option Operand)} (hl : l.length = d.operands.length)
    (howed : ∀ o ∈ d.operands, o.kind ≠ .fixed → ∃ v, l[o.index]? = some (some v)) :
    ∃ ops, collectSlots (fixSlots b d.operands l) = some ops := by
  refine exists_collectSlots_of_filled fun x hx => ?_
  obtain ⟨k, hx⟩ := List.mem_iff_getElem?.mp hx
  obtain ⟨hk, -⟩ := List.getElem?_eq_some_iff.mp hx
  obtain ⟨o, ho, rfl⟩ := d.exists_operand_of_wf h (k := k) (by simpa [hl] using hk)
  by_cases hf : o.kind = .fixed
  · obtain ⟨x', hx', -⟩ := fixSlots_getElem?_literal (b := b) h ho hf hl
    exact ⟨.lit x', Option.some.inj (hx'.symm.trans hx)⟩
  · obtain ⟨v, hv⟩ := howed o ho hf
    rw [fixSlots_getElem?_notFixed h ho hf, hv] at hx
    exact ⟨v, Option.some.inj hx⟩

/-- FIXRES returns OK where it leaves no slot empty (46_orchestrator.md R260). -/
theorem fixresAndReturn_of_collectSlots {s : State} {d : OpcodeDescriptor} {l : List (Option Operand)}
    {ops : List Operand} (hd : s.desc = some d) (hl : s.slots = some l)
    (hc : collectSlots (fixSlots s.rexB d.operands l) = some ops) :
    fixresAndReturn s = .next (s.returnOk { tag := d.tag, operands := ops }) := by
  simp [fixresAndReturn, hd, hl, hc]

/-- Settles O34: the operand indices are all the slots, so after FIXRES each slot is one that ModRM decoding filled or
holds the selected literal, and the call returns. -/
theorem fixresFillsTheFixedSlots : Obligations.FixresFillsTheFixedSlots := by
  intro s d l hs hq hd hwf hl hlen howed
  obtain ⟨ops, hc⟩ := exists_collectSlots_fixSlots (b := s.rexB) hwf hlen howed
  have hfix : fixSlots s.rexB d.operands l = ops.map some := collectSlots_eq_some.mp hc
  have hliteral : ∀ {o : OperandDescriptor} {x : Literal}, o ∈ d.operands → o.kind = .fixed →
      selectLiteral o s.rexB = some x → ops[o.index]? = some (.lit x) := fun ho hk hx =>
    operand_of_slot hfix (fixSlots_getElem?_fixed (d.index_nodup_of_wf hwf) ho hk hx
      (hlen ▸ d.index_lt_of_wf hwf ho))
  have hstep : step s = .next (s.returnOk { tag := d.tag, operands := ops }) := by
    rw [step_call (by simp [hs]) hq, callStep_fixed hs, fixresAndReturn_of_collectSlots hd hl hc]
  have hops : ops.length = d.operands.length := by
    rw [← hlen, ← fixSlots_length s.rexB d.operands l, hfix, List.length_map]
  refine ⟨_, ops, hstep, rfl, hops, rfl, rfl, rfl, rfl, fun o ho => ⟨fun hk v hv => ?_, fun hk l1 h1 hb => ?_,
    fun hk l0 h0 hor => ?_⟩⟩
  · exact operand_of_slot hfix ((fixSlots_getElem?_notFixed hwf ho hk l).trans hv)
  · exact hliteral ho hk (hb ▸ selectLiteral_alt1 h1)
  · exact hliteral ho hk ((selectLiteral_alt0 hor).trans h0)

end Machine

end Sys2Proof
end

section
/-! SUPPORT. What a step of a call is, and the ways a call ends (46_orchestrator.md R260, R270; 60_exceptions.md R284,
R290). -/

namespace Sys2Proof.Machine

/-- Settles O5: the fetch is the decoder on the bytes at hand, and a blocked caller adds nothing. -/
theorem stepRunsTheDecodedForm : Obligations.StepRunsTheDecodedForm := by
  intro s i hs hfix hq hf
  exact (step_call hs hq).trans (callStep_ok hfix hf)

/-- An end by an error shows it, and the state is the one the error leaves. -/
theorem errorState_shown (s : State) (side : Option Side) (e : DecodeError) :
    ∃ o, (errorState s side e).out = some o ∧ (errorState s side e).host = s.host ∧
      ∀ e', o.result = .error e' → ∃ side', errorState s side e = errorState s side' e' :=
  ⟨_, rfl, rfl, fun _ h => ⟨side, by cases h; rfl⟩⟩

/-- Settles O47, by the effects of a step of a call: a row ends it with an error only, FIXRES by the return. -/
theorem onlyResultOrResetEndsACall : Obligations.OnlyResultOrResetEndsACall := by
  intro s t hs h ht
  cases step_next_call hs h with
  | row i t hf hfix hrow =>
    obtain ⟨e, rfl⟩ := hrow.error_side hf hs ht
    exact .inl (errorState_shown s _ e)
  | truncated => exact .inl (errorState_shown s _ .truncated)
  | fixed => exact .inl ⟨_, rfl, rfl, nofun⟩
  | reset rest hh => exact .inr ⟨hh, rfl⟩

end Sys2Proof.Machine
end

section
/-! SUPPORT. The parts of a successful call, one after the other (46_orchestrator.md R264; 10_state.md R31). -/

namespace Sys2Proof.Machine

/-- Settles O54: what FIXRES finds was decoded part by part, and the return leaves the cursor. -/
theorem successfulCallConsumesItsParts : Obligations.SuccessfulCallConsumesItsParts := by
  intro s t i h hi
  obtain ⟨n, d, u, l, hu, -, rfl, -⟩ := decodeOne_ok_slots h hi
  have hpos := hu.pos
  refine ⟨n, _, _, _, _, _, d, ?_, hu.pos_le, hu.prefixes, hu.cell, rfl, rfl, rfl, rfl, rfl⟩
  rw [State.returnOk_pos, hpos, State.rexB, hu.rex]
  simp only [State.modrmStart, State.opcodeStart, State.modrmAt]
  cases d.modrm with
  | false => simp
  | true => simp [Nat.add_assoc]

end Sys2Proof.Machine
end

section
/-! SUPPORT. Runs of a call (46_orchestrator.md R260, R270; 70_reset_and_hazards.md R340, R341): the ways a run of a
blocked caller ends, and DECODE_ONE as its stages one after the other. -/

namespace Sys2Proof.Machine

/-! ## The end of a run -/

/-- From `s` the run ends within `k` steps, with `r`: the call is over and shows a result or an error, the caller
having no further move, or it is refused for an ill-formed descriptor. -/
inductive EndsIn : Nat → State → Result → Prop
  | shown {k : Nat} {s t : State} {o : Output} (h : step s = .next t) (hs : t.stage = .idle) (hh : t.host = [])
      (ho : t.out = some o) : EndsIn (k + 1) s (.next t)
  | refused {k : Nat} {s : State} (h : step s = .refused .illFormedDescriptor) :
      EndsIn (k + 1) s (.refused .illFormedDescriptor)
  | step {k : Nat} {s t : State} {r : Result} (h : step s = .next t) (ht : EndsIn k t r) : EndsIn (k + 1) s r

theorem EndsIn.succ {k : Nat} {s : State} {r : Result} (h : EndsIn k s r) : EndsIn (k + 1) s r := by
  induction h with
  | shown h hs hh ho => exact .shown h hs hh ho
  | refused h => exact .refused h
  | step h _ ih => exact .step h ih

theorem EndsIn.mono {k n : Nat} {s : State} {r : Result} (h : EndsIn k s r) (hk : k ≤ n) : EndsIn n s r := by
  induction hk with
  | refl => exact h
  | step _ ih => exact ih.succ

/-- Between calls a caller with no move leaves the block as it is (60_exceptions.md R301). -/
theorem runSteps_idle {s : State} (hs : s.stage = .idle) (hh : s.host = []) (n : Nat) : runSteps n s = .next s := by
  induction n with
  | zero => rfl
  | succ n ih => rw [runSteps_succ ((step_idle hs).trans (hostStep_nil hh)), ih]

/-- A run that is long enough has reached the end, and stays there. -/
theorem EndsIn.runSteps_eq {k : Nat} {s : State} {r : Result} (h : EndsIn k s r) : runSteps k s = r := by
  induction h with
  | shown h hs hh => rw [runSteps_succ h, runSteps_idle hs hh]
  | refused h => simp [runSteps, h]
  | step h _ ih => rw [runSteps_succ h, ih]

theorem EndsIn.result_cases {k : Nat} {s : State} {r : Result} (h : EndsIn k s r) :
    (∃ t o, r = .next t ∧ t.stage = .idle ∧ t.out = some o) ∨ r = .refused .illFormedDescriptor := by
  induction h with
  | shown h hs hh ho => exact .inl ⟨_, _, rfl, hs, ho⟩
  | refused => exact .inr rfl
  | step _ _ ih => exact ih

/-- The end depends on the state only through the first step. -/
theorem EndsIn.congr_step {k : Nat} {s t : State} {r : Result} (h : EndsIn k t r)
    (hst : Machine.step s = Machine.step t) : EndsIn k s r := by
  cases h with
  | shown h hs hh ho => exact .shown (hst.trans h) hs hh ho
  | refused h => exact .refused (hst.trans h)
  | step h ht => exact .step (hst.trans h) ht

theorem EndsIn.error {k : Nat} {s u : State} {side : Option Side} {e : DecodeError} (hh : s.host = [])
    (h : Machine.step u = .next (errorState s side e)) : EndsIn (k + 1) u (.next (errorState s side e)) :=
  .shown h rfl hh rfl

/-! ## DECODE_ONE, stage after stage -/

/-- The outcome of a stage followed by `k`. -/
def Flow.finish (f : Flow) (k : State → Result) : Result :=
  match f with
  | .go s => k s
  | .stop r => r

@[simp] theorem Flow.finish_go (s : State) (k : State → Result) : (Flow.go s).finish k = k s := rfl

@[simp] theorem Flow.finish_stop (r : Result) (k : State → Result) : (Flow.stop r).finish k = r := rfl

theorem Flow.finish_andThen (f : Flow) (g : State → Flow) (k : State → Result) :
    (f.andThen g).finish k = f.finish fun t => (g t).finish k := by
  cases f <;> rfl

/-- AMODE, then FIXRES and the return. -/
def afterOpcode (s : State) : Result := (amode s).finish fixresAndReturn

/-- OPCRES and what follows it. -/
def afterRex (s : State) : Result := (opcRes s).finish afterOpcode

/-- REXDEC and what follows it. -/
def afterScan (s : State) : Result := (rexDec s).finish afterRex

theorem decodeOne_eq (s : State) : decodeOne s = (pfxScan (s.len - s.pos + 1) s.beginCall).finish afterScan := by
  have h : decodeOne s = ((((pfxScan (s.len - s.pos + 1) s.beginCall).andThen rexDec).andThen opcRes).andThen
      amode).finish fixresAndReturn := rfl
  rw [h, Flow.finish_andThen, Flow.finish_andThen, Flow.finish_andThen]
  rfl

/-! ## The states of a call once the scan is done -/

theorem State.quiet_of_nil {s : State} (hh : s.host = []) : s.quiet = true := by simp [State.quiet, hh]

/-- A raise after the scan shows PFX and REX. -/
theorem Flow.raise_eq {s : State} (hs : s.stage ≠ .scan) (e : DecodeError) :
    Flow.raise s e = .stop (.next (errorState s (some { pfx := s.pfx, rex := s.rex }) e)) := by
  rw [Flow.raise, raiseError_eq, sideNow_eq, if_neg hs]

/-- FIXRES and the return do not see the stage, once the scan is done, nor DISP. -/
theorem fixresAndReturn_atFixed {s : State} (hs : s.stage ≠ .scan) (y : Option Int) :
    fixresAndReturn { s with disp := y, stage := .fixed } = fixresAndReturn s := by
  simp only [fixresAndReturn, State.returnOk, sideNow_eq, if_neg hs]
  rfl

theorem fixresAndReturn_cases (s : State) :
    (∃ i, fixresAndReturn s = .next (s.returnOk i)) ∨ fixresAndReturn s = .refused .illFormedDescriptor := by
  unfold fixresAndReturn
  split
  · split
    · exact .inl ⟨_, rfl⟩
    · exact .inr rfl
  · exact .inr rfl

theorem endsIn_fixed {s : State} (hs : s.stage ≠ .scan) (hh : s.host = []) (y : Option Int) :
    EndsIn 1 { s with disp := y, stage := .fixed } (fixresAndReturn s) := by
  have hstep : step { s with disp := y, stage := .fixed } = fixresAndReturn s := by
    rw [step_call (by simp) (State.quiet_of_nil (by exact hh)), callStep_fixed rfl, fixresAndReturn_atFixed hs]
  rcases fixresAndReturn_cases s with ⟨i, hr⟩ | hr
  · rw [hr] at hstep ⊢
    exact .shown hstep rfl hh rfl
  · rw [hr] at hstep ⊢
    exact .refused hstep

end Sys2Proof.Machine
end

section
/-! SUPPORT. AMODE row by row is the AMODE of the pseudocode (43_addressing_mode.md R190 to R199; 44_sib.md R220 to
R227): from the ModRM byte on a run of the call ends as AMODE, FIXRES and the return do. -/

namespace Sys2Proof.Machine

/-- A call between the scan and its end, `st` the stage of the next step; `s` is the state the pseudocode is in. -/
def State.atStage (s : State) (st : Stage) : State := { s with stage := st }

@[simp] theorem State.atStage_cfg (s : State) (st : Stage) : (s.atStage st).cfg = s.cfg := rfl
@[simp] theorem State.atStage_buf (s : State) (st : Stage) : (s.atStage st).buf = s.buf := rfl
@[simp] theorem State.atStage_len (s : State) (st : Stage) : (s.atStage st).len = s.len := rfl
@[simp] theorem State.atStage_pos (s : State) (st : Stage) : (s.atStage st).pos = s.pos := rfl
@[simp] theorem State.atStage_pfx (s : State) (st : Stage) : (s.atStage st).pfx = s.pfx := rfl
@[simp] theorem State.atStage_rex (s : State) (st : Stage) : (s.atStage st).rex = s.rex := rfl
@[simp] theorem State.atStage_modrm (s : State) (st : Stage) : (s.atStage st).modrm = s.modrm := rfl
@[simp] theorem State.atStage_sib (s : State) (st : Stage) : (s.atStage st).sib = s.sib := rfl
@[simp] theorem State.atStage_stage (s : State) (st : Stage) : (s.atStage st).stage = st := rfl
@[simp] theorem State.atStage_host (s : State) (st : Stage) : (s.atStage st).host = s.host := rfl
@[simp] theorem State.atStage_regRole (s : State) (st : Stage) : (s.atStage st).regRole = s.regRole := rfl
@[simp] theorem State.atStage_opRole (s : State) (st : Stage) : (s.atStage st).opRole = s.opRole := rfl

/-- An error of a row or of the fetch, whatever the stage. -/
theorem errorState_atStage (s : State) (st : Stage) (side : Option Side) (e : DecodeError) :
    errorState (s.atStage st) side e = errorState s side e := rfl

theorem sideNow_atStage {s : State} {st : Stage} (hst : st ≠ .scan) :
    (s.atStage st).sideNow = some { pfx := s.pfx, rex := s.rex } := if_neg hst

/-- The pseudocode is past the scan, and the caller has no further move. -/
structure State.PastScan (s : State) : Prop where
  stage : s.stage = .opcode
  host : s.host = []

theorem State.PastScan.ne_scan {s : State} (h : s.PastScan) : s.stage ≠ .scan := by simp [h.stage]

/-- A raise of the pseudocode, wherever it has moved the cursor, is the error that the step raises. -/
theorem endsIn_raise {s u : State} {j : State → Result} {k p : Nat} {e : DecodeError} (h : s.PastScan)
    (hstep : step u = .next (errorState s (some { pfx := s.pfx, rex := s.rex }) e)) :
    EndsIn (k + 1) u ((Flow.raise { s with pos := p } e).finish j) := by
  rw [Flow.raise_eq (s := { s with pos := p }) h.ne_scan]
  exact .error h.host hstep

/-! ## The end of AMODE -/

/-- `op`'s slot written: FIXRES is next. -/
theorem endsIn_stored {s : State} {st : Stage} {k p : Nat} {op : OperandDescriptor} {v : Operand} {y : Option Int}
    (h : s.PastScan)
    (hstep : step (s.atStage st) = .next { s with
      pos := p, disp := y, slots := s.slots.map fun l => l.set op.index (some v), stage := .fixed }) :
    EndsIn (k + 2) (s.atStage st) ((storeAndGo op v { s with pos := p }).finish fixresAndReturn) :=
  .step hstep ((endsIn_fixed (s := State.setSlot { s with pos := p } op.index v) h.ne_scan h.host y).mono (by omega))

/-- A memory operand with the displacement of `k`, as the pseudocode has it. -/
def memFlow (k : MemMod) (op : OperandDescriptor) (e : Option Int → MemoryExpr) (s : State) : Flow :=
  if k.field = 0#2 then storeAndGo op (.mem (e none)) s
  else withDisp k.field s fun d u => storeAndGo op (.mem (e (some d))) u

theorem memFlow_eq (k : MemMod) (op : OperandDescriptor) (e : Option Int → MemoryExpr) (s : State) :
    memFlow k op e s = match s.readDisp k with
      | none => Flow.raise s .truncated
      | some q => storeAndGo op (.mem (e q.1)) { s with pos := q.2.pos } := by
  cases k with
  | m0 => rfl
  | m1 => by_cases hp : s.pos + 1 ≤ s.len <;> simp [memFlow, withDisp, MemMod.field, State.readDisp, State.readI8, hp]
  | m2 => by_cases hp : s.pos + 4 ≤ s.len <;> simp [memFlow, withDisp, MemMod.field, State.readDisp, State.readI32, hp]

theorem readDisp_atStage (s : State) (st : Stage) (k : MemMod) :
    (s.atStage st).readDisp k = (s.readDisp k).map fun q => (q.1, q.2.atStage st) := by
  cases k with
  | m0 => rfl
  | m1 => by_cases hp : s.pos + 1 ≤ s.len <;> simp [State.readDisp, State.readI8, hp, State.atStage]
  | m2 => by_cases hp : s.pos + 4 ≤ s.len <;> simp [State.readDisp, State.readI32, hp, State.atStage]

/-- A row that builds a memory operand. -/
theorem endsIn_memOp {s : State} {st : Stage} {k : MemMod} {op : OperandDescriptor}
    {f : OperandDescriptor → Option Int → MemoryExpr} (h : s.PastScan) (hst : st ≠ .scan) (hop : s.opRole = some op)
    (hstep : step (s.atStage st) = memOp k f (s.atStage st)) :
    EndsIn 2 (s.atStage st) ((memFlow k op (f op) s).finish fixresAndReturn) := by
  simp only [memOp, State.atStage_opRole, hop, readDisp_atStage, raiseError_eq, sideNow_atStage hst] at hstep
  rw [memFlow_eq]
  rcases s.readDisp_cases k with ⟨-, hr⟩ | ⟨-, hr⟩ <;> rw [hr] at hstep ⊢
  · exact endsIn_stored (v := .mem (f op (s.dispAt k))) h hstep
  · exact endsIn_raise h hstep

/-! ## The SIB byte -/

/-- At the SIB form a step is the row of the ModRM and the SIB byte read before. -/
theorem step_sib {s : State} {v : ModRM} {x : Sib} {k : MemMod} (hs : s.stage = .sib) (hq : s.quiet = true)
    (hv : s.modrm = some v) (hx : s.sib = some x) (hk : v.mod = k.field) (hr : v.rm = 4#3) :
    ∃ i, i.row = .sib k x.idx x.bs (base5Test s.cfg x.bs s.rexB) x.ss ∧ step s = exec i s := by
  refine ⟨_, sibInstr_row k x.idx x.bs _ x.ss base5Test_bs, ?_⟩
  calc step s = callStep s := step_call (by simp [hs]) hq
    _ = exec _ s := callStep_ok (by simp [hs]) ((fetch_sib hs hv hx).trans (decodeSib_ok hk hr x))

/-- The memory operand of a SIB byte, as the pseudocode has it, by the row of the SIB form (44_sib.md R223 to R227). -/
def sibFlow (op : OperandDescriptor) (k : MemMod) (x : Sib) (s : State) : Flow :=
  if base5Test s.cfg x.bs s.rexB then
    if k = .m0 then memFlow .m2 op (noBaseExpr (s.indexTerm op.kind x.idx x.ss)) s
    else memFlow k op (base5Expr (s.regdes op.kind (ext4 5#3 s.rexB)) (s.indexTerm op.kind x.idx x.ss)) s
  else memFlow k op (baseExpr (s.regdes op.kind (ext4 x.bs s.rexB)) (s.indexTerm op.kind x.idx x.ss)) s

theorem amodeSib_of_lt {s : State} (hl : s.pos < s.len) (op : OperandDescriptor) (k : MemMod) :
    amodeSib op k.field s = sibFlow op k (Sib.ofByte (s.buf.read s.pos))
      { s with pos := s.pos + 1, sib := some (Sib.ofByte (s.buf.read s.pos)) } := by
  simp only [amodeSib, State.readU8_of_lt hl, sibFlow, base5Test_eq]
  refine ite_congr (by rfl) (fun hb => ?_) fun _ => rfl
  rw [← base5Test_eq] at hb
  rw [base5Test_bs hb]
  cases k <;> rfl

theorem amodeSib_of_le {s : State} (hl : s.len ≤ s.pos) (op : OperandDescriptor) (m : BitVec 2) :
    amodeSib op m s = Flow.raise s .truncated := by
  simp only [amodeSib, State.readU8_of_le hl]

/-- The SIB form is the row of the ModRM and the SIB byte, and the memory operand of the pseudocode. -/
theorem endsIn_sib {s : State} {op : OperandDescriptor} {v : ModRM} {x : Sib} {k : MemMod} (h : s.PastScan)
    (hop : s.opRole = some op) (hv : s.modrm = some v) (hx : s.sib = some x) (hk : v.mod = k.field) (hr : v.rm = 4#3) :
    EndsIn 2 (s.atStage .sib) ((sibFlow op k x s).finish fixresAndReturn) := by
  obtain ⟨i, hi, hstep⟩ := step_sib (s := s.atStage .sib) rfl (State.quiet_of_nil h.host) hv hx hk hr
  unfold sibFlow
  cases hb : base5Test s.cfg x.bs s.rexB with
  | false => exact endsIn_memOp h (by simp) hop (hstep.trans (exec_sib (hb ▸ hi) _))
  | true =>
    by_cases hm : k = .m0
    · subst hm
      exact endsIn_memOp h (by simp) hop (hstep.trans (exec_sib_noBase (hb ▸ hi) _))
    · simp only [if_neg hm, if_true]
      exact endsIn_memOp h (by simp) hop (hstep.trans (exec_sib_base5 (hb ▸ hi) hm _))

/-- The SIB path: the SIB byte is read at the rm operand, and the SIB form is the next step. -/
theorem endsIn_amodeSib {s : State} {op : OperandDescriptor} {v : ModRM} {k : MemMod} (h : s.PastScan)
    (hop : s.opRole = some op) (hv : s.modrm = some v) (hk : v.mod = k.field) (hr : v.rm = 4#3)
    (hstep : step (s.atStage .rm) = followsRow (s.atStage .rm)) :
    EndsIn 3 (s.atStage .rm) ((amodeSib op v.mod s).finish fixresAndReturn) := by
  rw [hk]
  by_cases hl : s.pos < s.len
  · rw [followsRow_of_lt (by exact hl)] at hstep
    rw [amodeSib_of_lt hl]
    exact .step hstep (endsIn_sib (s := { s with pos := s.pos + 1, sib := some (Sib.ofByte (s.buf.read s.pos)) })
      ⟨h.stage, h.host⟩ hop hv rfl hk hr)
  · rw [followsRow_truncated (by simp; omega), sideNow_atStage (by simp), errorState_atStage] at hstep
    rw [amodeSib_of_le (Nat.not_lt.mp hl)]
    exact endsIn_raise h hstep

/-! ## The rm operand -/

/-- Tested in the order of the pseudocode (43_addressing_mode.md R194 to R199). -/
theorem endsIn_rm {s : State} {d : OpcodeDescriptor} {op : OperandDescriptor} {v : ModRM} (h : s.PastScan)
    (hd : s.desc = some d) (hop : d.deref d.opRole = some op) (hv : s.modrm = some v) :
    EndsIn 3 (s.atStage .rm) ((amodeRm d op v s).finish fixresAndReturn) := by
  have hop' : s.opRole = some op := (State.opRole_of_desc hd).trans hop
  have hstep := step_rm (s := s.atStage .rm) rfl (State.quiet_of_nil h.host) hv
  have hinvalid : RaisesInvalid (decodeRm (s.atStage .rm).ctx v).row →
      EndsIn 3 (s.atStage .rm) ((Flow.raise s .invalidEncoding).finish fixresAndReturn) := fun hi => by
    rw [exec_of_raisesInvalid hi, sideNow_atStage (by simp), errorState_atStage] at hstep
    exact endsIn_raise h hstep
  rw [decodeRm_raisesInvalid_iff] at hinvalid
  unfold amodeRm
  rcases mod_cases v.mod with hm | ⟨k, hk⟩
  · rw [if_neg fun hsib => hsib.1 hm, if_pos hm]
    have hmem : (s.atStage .rm).ctx.memOnly = d.m.isSome := State.memOnly_of_desc hd
    by_cases hdm : d.m.isSome = true
    · rw [if_pos hdm]
      exact hinvalid (.inl ⟨hm, hmem.trans hdm⟩)
    · rw [decodeRm_direct hm, hmem, if_neg hdm, exec_direct rfl,
        directRow_eq (s := s.atStage .rm) hop'] at hstep
      rw [if_neg hdm, regdes_ext4]
      exact endsIn_stored (p := s.pos) (y := s.disp) h hstep
  have hm : v.mod ≠ 3#2 := by simp [hk]
  by_cases hr : v.rm = 4#3
  · rw [if_pos ⟨hm, hr⟩]
    rw [decodeRm_follows hk hr, exec_follows (followsInstr_row k)] at hstep
    exact endsIn_amodeSib h hop' hv hk hr hstep
  rw [if_neg fun hsib => hr hsib.2, if_neg hm]
  by_cases hx : s.rexX = true
  · rw [if_pos hx]
    exact hinvalid (.inr ⟨hm, hr, hx⟩)
  · rw [if_neg hx, hk]
    have hx' : (s.atStage .rm).ctx.rexX = false := Bool.eq_false_iff.mpr hx
    rw [decodeRm_mem hk hr, hx', exec_mem (memInstr_row k false v.rm hr)] at hstep
    exact (endsIn_memOp h (by simp) hop' hstep).succ

/-! ## AMODE -/

theorem exists_roles_of_wf {d : OpcodeDescriptor} {nslot : Option Nat} (h : d.wf nslot = true) (hm : d.modrm = true) :
    ∃ r op, d.deref d.r = some r ∧ d.deref d.opRole = some op := by
  obtain ⟨-, -, h3, -⟩ := d.wf_iff.mp h
  simp only [OpcodeDescriptor.w3, hm, Bool.not_true, Bool.false_or, Bool.and_eq_true] at h3
  obtain ⟨⟨⟨hr, -⟩, hop⟩, -⟩ := h3
  cases hr' : d.deref d.r with
  | none => simp [hr'] at hr
  | some r =>
    cases hop' : d.deref d.opRole with
    | none => simp [hop'] at hop
    | some op => exact ⟨r, op, rfl, rfl⟩

theorem amode_of_lt {s : State} {d : OpcodeDescriptor} {r op : OperandDescriptor} (hd : s.desc = some d)
    (hm : d.modrm = true) (hr : d.deref d.r = some r) (hop : d.deref d.opRole = some op) (hl : s.pos < s.len) :
    amode s = amodeRm d op (ModRM.ofByte (s.buf.read s.pos)) (s.regStored r (ModRM.ofByte (s.buf.read s.pos))) := by
  simp only [amode, hd, hm, if_true, State.readU8_of_lt hl, hr, hop, regdes_ext4, State.regStored]
  rfl

theorem amode_of_le {s : State} {d : OpcodeDescriptor} (hd : s.desc = some d) (hm : d.modrm = true)
    (hl : s.len ≤ s.pos) : amode s = Flow.raise s .truncated := by
  simp only [amode, hd, hm, if_true, State.readU8_of_le hl]

theorem amode_without {s : State} {d : OpcodeDescriptor} (hd : s.desc = some d) (hm : d.modrm = false) :
    amode s = .go s := by
  simp [amode, hd, hm]

/-- At the ModRM byte a step is MODRM_REG, and the rm operand is the next one. -/
theorem endsIn_modrm {s : State} {d : OpcodeDescriptor} {nslot : Option Nat} (h : s.PastScan) (hd : s.desc = some d)
    (hwf : d.wf nslot = true) (hm : d.modrm = true) : EndsIn 4 (s.atStage .modrm) (afterOpcode s) := by
  obtain ⟨r, op, hr, hop⟩ := exists_roles_of_wf hwf hm
  have hq : (s.atStage .modrm).quiet = true := State.quiet_of_nil h.host
  unfold afterOpcode
  by_cases hl : s.pos < s.len
  · have hstep := (step_call (s := s.atStage .modrm) (by simp) hq).trans (callStep_ok (by simp) (fetch_modrm rfl hl))
    rw [exec_reg rfl, regRow_of_lt (s := s.atStage .modrm) hl ((State.regRole_of_desc hd).trans hr)] at hstep
    rw [amode_of_lt hd hm hr hop hl]
    exact .step hstep (endsIn_rm (s := s.regStored r _) ⟨h.stage, h.host⟩ hd hop rfl)
  · have hend : (s.atStage .modrm).len ≤ (s.atStage .modrm).pos := Nat.not_lt.mp hl
    have hstep := step_truncated (s := s.atStage .modrm) (by simp) hq (fetch_end (by simp) hend)
    rw [State.sideAtEnd_of_le hend, if_neg (by simp)] at hstep
    rw [amode_of_le hd hm (Nat.not_lt.mp hl)]
    exact endsIn_raise h hstep

end Sys2Proof.Machine
end

section
/-! SUPPORT. OPCRES, REXDEC and PFXSCAN row by row are those of the pseudocode (42_opcode_resolver.md R170;
41_rex_decoder.md R160; 40_prefix_scanner.md R140), so that a run of a call ends as DECODE_ONE does (46_orchestrator.md
R260, R270). -/

namespace Sys2Proof.Machine

/-! ## OPCRES -/

/-- After an opcode row AMODE is next with ModRM, FIXRES without; the pseudocode is where it has resolved `d`. -/
theorem endsIn_resolved {s : State} {d : OpcodeDescriptor} {nslot : Option Nat} (h : s.PastScan) (hd : s.desc = some d)
    (hwf : d.wf nslot = true) : EndsIn 4 (s.atStage (if d.modrm then .modrm else .fixed)) (afterOpcode s) := by
  cases hm : d.modrm with
  | true => exact endsIn_modrm h hd hwf hm
  | false =>
    rw [afterOpcode, amode_without hd hm]
    exact (endsIn_fixed h.ne_scan h.host s.disp).mono (by omega)

/-- An opcode row with its bytes there takes the entry of its cell. -/
theorem endsIn_opcodeRow {s : State} {o : OpcBytes} (h : s.PastScan) (hp : s.pos + o.count ≤ s.len)
    (hstep : step s = opcodeRow o s) :
    EndsIn 5 s ((takeEntry (cellOf s.cfg o) o { s with pos := s.pos + o.count }).finish afterOpcode) := by
  have he := OpcBytes.entry_eq o s.cfg
  cases hc : cellOf s.cfg o with
  | none =>
    rw [opcodeRow_unknown hp (he.trans hc)] at hstep
    exact endsIn_raise (s := s) h hstep
  | some d =>
    simp only [takeEntry]
    cases hwf : d.wf s.cfg.nslot with
    | false =>
      rw [opcodeRow_refused hp (he.trans hc) hwf] at hstep
      exact .refused hstep
    | true =>
      rw [opcodeRow_resolved hp (he.trans hc) hwf] at hstep
      exact .step hstep (endsIn_resolved (s := { s with
        pos := s.pos + o.count, opc := some o, desc := some d, slots := some (emptySlots d.operands.length) })
        ⟨h.stage, h.host⟩ rfl hwf)

theorem opcodeOf_oneByteInstr (p : Params) (v : Byte) : opcodeOf p (oneByteInstr v).row = some (.one v) := by
  rw [oneByteInstr_row]
  split <;> rfl

/-- OPCRES takes the entry of the opcode the decoder reads, its bytes consumed, or raises Truncated where the decoder
runs out of bytes. -/
def OpcResAgrees (s : State) (f : Except Reject Instr) (r : Flow) : Prop :=
  (f = .error .truncated ∧ ∃ p, r = Flow.raise { s with pos := p } .truncated) ∨
  ∃ i o, f = .ok i ∧ opcodeOf s.cfg i.row = some o ∧ s.pos + o.count ≤ s.len ∧
    r = takeEntry (cellOf s.cfg o) o { s with pos := s.pos + o.count }

/-- By the shapes of an opcode (42_opcode_resolver.md R170). -/
theorem opcRes_agrees {s : State} (h1 : s.pos < s.len) :
    OpcResAgrees s (decodeOpcode s.cfg (s.buf.read s.pos) (s.bytesFrom 2 (s.pos + 1))) (opcRes s) := by
  unfold opcRes
  simp only [State.readU8_of_lt h1]
  by_cases hesc : s.buf.read s.pos = s.cfg.esc
  swap
  · rw [if_pos hesc, decodeOpcode_one hesc]
    exact .inr ⟨_, _, rfl, opcodeOf_oneByteInstr _ _, h1, rfl⟩
  rw [if_neg (not_not.mpr hesc), hesc]
  by_cases h2 : s.pos + 1 < s.len
  swap
  · rw [State.bytesFrom_nil (Nat.not_lt.mp h2), State.readU8_of_le (by exact Nat.not_lt.mp h2)]
    exact .inl ⟨decodeOpcode_esc_truncated (.inl rfl), _, rfl⟩
  rw [State.bytesFrom_cons h2]
  simp only [State.readU8_of_lt (s := { s with pos := s.pos + 1 }) h2]
  by_cases hA : s.buf.read (s.pos + 1) = s.cfg.selA
  · rw [if_pos hA, hA]
    by_cases h3 : s.pos + 2 < s.len
    · rw [State.bytesFrom_cons h3, decodeOpcode_threeA]
      simp only [State.readU8_of_lt (s := { s with pos := s.pos + 1 + 1 }) h3]
      exact .inr ⟨_, _, rfl, rfl, h3, rfl⟩
    · rw [State.bytesFrom_nil (Nat.not_lt.mp h3), State.readU8_of_le (by exact Nat.not_lt.mp h3)]
      exact .inl ⟨decodeOpcode_esc_truncated (.inr ⟨_, rfl, .inl rfl⟩), _, rfl⟩
  rw [if_neg hA]
  by_cases hB : s.buf.read (s.pos + 1) = s.cfg.selB
  · rw [if_pos hB, hB]
    by_cases h3 : s.pos + 2 < s.len
    · rw [State.bytesFrom_cons h3, decodeOpcode_threeB (by rw [← hB]; exact Ne.symm hA)]
      simp only [State.readU8_of_lt (s := { s with pos := s.pos + 1 + 1 }) h3]
      exact .inr ⟨_, _, rfl, rfl, h3, rfl⟩
    · rw [State.bytesFrom_nil (Nat.not_lt.mp h3), State.readU8_of_le (by exact Nat.not_lt.mp h3)]
      exact .inl ⟨decodeOpcode_esc_truncated (.inr ⟨_, rfl, .inr rfl⟩), _, rfl⟩
  rw [if_neg hB, decodeOpcode_two hA hB]
  exact .inr ⟨_, _, rfl, rfl, h2, rfl⟩

/-- At the opcode a step is the opcode row. -/
theorem endsIn_opcode {s : State} (h : s.PastScan) : EndsIn 5 s (afterRex s) := by
  have hq := State.quiet_of_nil h.host
  have htrunc : ∀ p, s.fetch = .error .truncated →
      EndsIn 5 s ((Flow.raise { s with pos := p } .truncated).finish afterOpcode) := fun p hf => by
    have hstep := step_truncated (.inr (.inl h.stage)) hq hf
    rw [State.sideAtEnd, if_neg fun hscan => h.ne_scan hscan.1] at hstep
    exact endsIn_raise (s := s) h hstep
  unfold afterRex
  by_cases hl : s.pos < s.len
  · rcases opcRes_agrees hl with ⟨hf, p, hr⟩ | ⟨i, o, hf, ho, hp, hr⟩ <;>
      rw [← fetch_opcode h.stage hl] at hf <;> rw [hr]
    · exact htrunc p hf
    · refine endsIn_opcodeRow h hp ?_
      calc step s = exec i s := stepRunsTheDecodedForm s i (by simp [h.stage]) (by simp [h.stage]) hq hf
        _ = opcodeRow o s := (exec_opcodeOf ho).1
  · rw [opcRes, State.readU8_of_le (Nat.not_lt.mp hl)]
    exact htrunc s.pos (fetch_end (.inr (.inl h.stage)) (Nat.not_lt.mp hl))

/-! ## REXDEC and PFXSCAN -/

/-- A call at the start of a form of the prefix scan, the caller with no further move. -/
structure State.Scanning (s : State) : Prop where
  stage : s.stage = .scan
  host : s.host = []
  rex : s.rex = none

theorem rexDec_of_lt {s : State} (hl : s.pos < s.len) : rexDec s = .go { s with
    rex := s.rexAt s.pos, pos := s.pos + (if (s.rexAt s.pos).isSome then 1 else 0), stage := .opcode } := by
  have hrex : (s.buf.read s.pos).extractLsb' 4 4 = 4#4 ↔ (s.buf.read s.pos).toNat / 16 = 4 := by
    rw [← isRexByte_iff, isRexByte, beq_iff_eq]
  simp only [rexDec, State.peek_of_lt hl, hrex, State.rexAt]
  split <;> rfl

/-- At a byte that is no prefix a step is the REX row, or what it is where the opcode begins. -/
theorem endsIn_rex {s : State} (h : s.Scanning) (hl : s.pos < s.len)
    (hv : s.cfg.prefixOf (s.buf.read s.pos) = none) : EndsIn 6 s (afterScan s) := by
  obtain ⟨hrex, hopc⟩ := rexDecoderReadsOneOptionalByte s h.stage (State.quiet_of_nil h.host) hl hv
  rw [afterScan, rexDec_of_lt hl]
  by_cases hnib : (s.buf.read s.pos).toNat / 16 = 4
  · have hr : s.rexAt s.pos = _ := if_pos hnib
    rw [hr]
    exact .step (hrex hnib) (endsIn_opcode ⟨rfl, h.host⟩)
  · have hr : s.rexAt s.pos = s.rex := (if_neg hnib).trans h.rex.symm
    have hpos : s.pos + (if s.rex.isSome then 1 else 0) = s.pos := by simp [h.rex]
    rw [hr, hpos]
    exact (endsIn_opcode (s := s.endScan) ⟨rfl, h.host⟩).succ.congr_step (hopc hnib)

/-- PFXSCAN takes one step for each prefix, and reads no more than the bytes that are left. -/
theorem endsIn_scan (n : Nat) {s : State} (h : s.Scanning) (hn : s.len - s.pos < n) :
    EndsIn (n + 5) s ((pfxScan n s).finish afterScan) := by
  induction n generalizing s with
  | zero => omega
  | succ n ih =>
    by_cases hl : s.pos < s.len
    · cases hf : s.cfg.prefixOf (s.buf.read s.pos) with
      | none =>
        simp only [pfxScan, State.peek_of_lt hl, hf]
        exact (endsIn_rex h hl hf).mono (by omega)
      | some f =>
        simp only [pfxScan, State.peek_of_lt hl, hf]
        exact .step (step_prefix h.stage (State.quiet_of_nil h.host) hl hf)
          (ih (s := { s with pfx := s.pfx.set f, pos := s.pos + 1 }) ⟨h.stage, h.host, h.rex⟩ (by dsimp only; omega))
    · have hend : s.len ≤ s.pos := Nat.not_lt.mp hl
      have hstep := step_truncated (.inl h.stage) (State.quiet_of_nil h.host) (fetch_end (.inl h.stage) hend)
      rw [State.sideAtEnd_of_le hend, ← sideNow_eq] at hstep
      simp only [pfxScan, State.peek_of_le hend, Flow.raise, raiseError_eq]
      exact .error h.host hstep

theorem hostStep_start {s : State} {rest : List HostMove} (hh : s.host = .start :: rest) :
    hostStep s = .next { s.beginCall with host := rest } := by
  simp [hostStep, hh]

/-- The start of a call, and the run that follows it. -/
theorem endsIn_decodeOne {s : State} (hs : s.stage = .idle) (hh : s.host = []) :
    EndsIn (s.len - s.pos + 7) { s with host := [.start] } (decodeOne s) := by
  have hstep : step { s with host := [.start] } = .next s.beginCall := by
    rw [step_idle (by exact hs), hostStep_start rfl, ← hh]
    rfl
  rw [decodeOne_eq]
  exact .step hstep (endsIn_scan (s.len - s.pos + 1) ⟨rfl, hh, rfl⟩ (Nat.lt_succ_self _))

/-- Settles O52: the run ends as DECODE_ONE does, and stays there. -/
theorem stepsOfACallAmountToDecodeOne : Obligations.StepsOfACallAmountToDecodeOne := by
  intro s n hs hh hn
  exact ((endsIn_decodeOne hs hh).mono hn).runSteps_eq

/-- Settles O53: the run ends, with what it shows or with the refusal. -/
theorem everyCallEnds : Obligations.EveryCallEnds := by
  intro s hs hh
  have hend := endsIn_decodeOne hs hh
  rw [hend.runSteps_eq]
  rcases hend.result_cases with ⟨t, o, hr, ht, ho⟩ | hr
  · exact .inl ⟨t, o, hr, ht, ho⟩
  · exact .inr hr

end Sys2Proof.Machine
end

section
/-! SUPPORT. The source's two end-to-end examples (46_orchestrator.md R260, R269): a call with no prefix whose opcode has
one byte, through its stages. -/

namespace Sys2Proof.Machine

/-! ## A call with no prefix and a one-byte opcode -/

theorem pfxScan_none {s : State} (hl : s.pos < s.len) (hv : s.cfg.prefixOf (s.buf.read s.pos) = none) (n : Nat) :
    pfxScan (n + 1) s = .go s := by
  simp only [pfxScan, State.peek_of_lt hl, hv]

theorem opcRes_oneByte {s : State} {d : OpcodeDescriptor} (hl : s.pos < s.len) (hesc : s.buf.read s.pos ≠ s.cfg.esc)
    (hc : s.cfg.t1.get (s.buf.read s.pos) = some d) (hwf : d.wf s.cfg.nslot = true) :
    opcRes s = .go (s.resolvedWith d) := by
  have hopc : s.opcodeAt s.pos = .one (s.buf.read s.pos) := if_pos hesc
  have hlookup : s.cfg.lookup .t1 (s.buf.read s.pos) = some d := hc
  simp only [opcRes, State.readU8_of_lt hl, if_pos hesc, hlookup, takeEntry, if_pos hwf, State.resolvedWith, hopc]
  rfl

/-- With no prefix, a byte at the opcode that is not ESC, and its cell well-formed, AMODE and FIXRES are left to do. -/
theorem decodeOne_oneByte {s : State} {d : OpcodeDescriptor} (hl : s.opcodeStart 0 < s.len)
    (hv : s.cfg.prefixOf (s.buf.read s.pos) = none) (hesc : s.buf.read (s.opcodeStart 0) ≠ s.cfg.esc)
    (hc : s.cfg.t1.get (s.buf.read (s.opcodeStart 0)) = some d) (hwf : d.wf s.cfg.nslot = true) :
    decodeOne s = afterOpcode ((s.scanned 0 PrefixSet.empty).resolvedWith d) := by
  have hl0 : s.pos < s.len := by unfold State.opcodeStart at hl; omega
  rw [decodeOne_eq, pfxScan_none (s := s.beginCall) hl0 hv, Flow.finish_go, afterScan,
    rexDec_of_lt (s := s.beginCall) hl0, Flow.finish_go]
  have hopc : opcRes (s.scanned 0 PrefixSet.empty) = .go ((s.scanned 0 PrefixSet.empty).resolvedWith d) :=
    opcRes_oneByte hl hesc hc hwf
  exact congrArg (fun f => Flow.finish f afterOpcode) hopc

/-! ## C3 -/

/-- A descriptor with no operands and no ModRM is well-formed, whatever NSLOT is. -/
theorem wf_of_no_operands {d : OpcodeDescriptor} (nslot : Option Nat) (ho : d.operands = []) (hm : d.modrm = false)
    (hr : d.r = none) (hmem : d.m = none) (hrm : d.rm = none) : d.wf nslot = true := by
  rw [d.wf_iff]
  refine ⟨?_, ?_, ?_, ?_, ?_⟩
  · cases nslot <;> simp [OpcodeDescriptor.w1, ho, withinNslot]
  · simp [OpcodeDescriptor.w2, ho, hr, hmem, hrm]
  · simp [OpcodeDescriptor.w3, hm]
  · simp [OpcodeDescriptor.w4, ho, OpcodeDescriptor.w4From]
  · simp [OpcodeDescriptor.w5, ho]

/-- What the source fixes of `T1[C3]` (30_encoding.md R112). -/
theorem cellC3Ok_iff {p : Params} {d : OpcodeDescriptor} (hc : p.t1.get 0xC3#8 = some d) : p.cellC3Ok = true ↔
    d.operands = [] ∧ d.modrm = false ∧ d.r = none ∧ d.m = none ∧ d.rm = none := by
  have hlookup : p.lookup .t1 0xC3#8 = some d := hc
  simp [Params.cellC3Ok, hlookup, and_assoc]

/-- Settles O58: C3 is no REX byte, and with no operands FIXRES has nothing to fill. -/
theorem exampleC3 : Obligations.ExampleC3 := by
  intro s d hcell hc hv hesc hl hb
  obtain ⟨hops, hm, hr, hmem, hrm⟩ := (cellC3Ok_iff hc).mp hcell
  have hrex : s.rexAt s.pos = none := by simp [State.rexAt, hb]
  have hstart : s.opcodeStart 0 = s.pos := by simp [State.opcodeStart, hrex]
  have hone : s.opcodeAt s.pos = .one 0xC3#8 := by simp [State.opcodeAt, hb, Ne.symm hesc]
  have hwf := wf_of_no_operands s.cfg.nslot hops hm hr hmem hrm
  have hcall := decodeOne_oneByte (s := s) (d := d) (by rwa [hstart]) (by rwa [hb])
    (by rw [hstart, hb]; exact hesc.symm) (by rwa [hstart, hb]) hwf
  rw [afterOpcode, amode_without rfl hm, Flow.finish_go,
    fixresAndReturn_of_collectSlots (d := d) (ops := []) rfl rfl (by simp [hops, emptySlots]; rfl)] at hcall
  refine ⟨_, hcall, rfl, ?_⟩
  calc s.opcodeStart 0 + (s.opcodeAt (s.opcodeStart 0)).count = s.pos + 1 := by rw [hstart, hone]; rfl

/-! ## 48 89 D8 -/

/-- What the source fixes of `T1[89]`, the roles by their operands (30_encoding.md R112). -/
theorem cell89Ok_iff {p : Params} {d : OpcodeDescriptor} {r rm : OperandDescriptor} (hc : p.t1.get 0x89#8 = some d)
    (hr : d.deref d.r = some r) (hrm : d.deref d.rm = some rm) : p.cell89Ok = true ↔
    d.operands.length = 2 ∧ d.modrm = true ∧ d.m = none ∧ r.kind = .gpr ∧ (rm.kind = .gpr ∨ rm.kind = .rm) := by
  have hlookup : p.lookup .t1 0x89#8 = some d := hc
  simp [Params.cell89Ok, hlookup, hr, hrm, and_assoc]

/-- AMODE in the register form: the reg operand and the register of the rm field (43_addressing_mode.md R191, R197). -/
def State.bothRegisters (s : State) (r op : OperandDescriptor) (v : ModRM) : State :=
  (s.regStored r v).setSlot op.index (.reg (s.registerOf op.kind v.rm s.rexB))

theorem amode_register {s : State} {d : OpcodeDescriptor} {r op : OperandDescriptor} {v : ModRM} (hd : s.desc = some d)
    (hm : d.modrm = true) (hr : d.deref d.r = some r) (hop : d.deref d.opRole = some op) (hl : s.pos < s.len)
    (hv : ModRM.ofByte (s.buf.read s.pos) = v) (hmod : v.mod = 3#2) (hmem : d.m = none) :
    amode s = .go (s.bothRegisters r op v) := by
  rw [amode_of_lt hd hm hr hop hl, hv, amodeRm, if_neg fun hsib => hsib.1 hmod, if_pos hmod, if_neg (by simp [hmem]),
    regdes_ext4]
  rfl

/-- Two roles are all a descriptor of two operands has, so AMODE fills both slots. -/
theorem State.SlotsOf.filled_of_two {u : State} {d : OpcodeDescriptor} {v : ModRM} {l : List (Option Operand)}
    {nslot : Option Nat} (h : u.SlotsOf d v l) (hwf : d.wf nslot = true) (hm : d.modrm = true)
    (hlen : d.operands.length = 2) {o : OperandDescriptor} (ho : o ∈ d.operands) :
    ∃ x, l[o.index]? = some (some x) := by
  obtain ⟨r, op, hr, hop⟩ := exists_roles_of_wf hwf hm
  obtain ⟨hslotr, hslotop⟩ := h.roles hwf hm
  obtain ⟨-, -, hne, -⟩ := d.roles_of_wf hwf hm
  have hidx := d.index_ne_of_role_ne hwf hop hr hne
  have hri := d.index_lt_of_wf hwf (d.mem_of_deref hr)
  have hopi := d.index_lt_of_wf hwf (d.mem_of_deref hop)
  have hoi := d.index_lt_of_wf hwf ho
  obtain heq | heq : o.index = r.index ∨ o.index = op.index := by omega
  · exact ⟨_, heq ▸ hslotr r hr⟩
  · obtain ⟨x, -, hx⟩ := hslotop op hop
    exact ⟨x, heq ▸ hx⟩

/-- What a call whose two operands are registers leaves for the return, `u`, and the operands it returns. -/
structure State.TwoRegisters (s : State) (d : OpcodeDescriptor) (r op : OperandDescriptor) (u : State)
    (ops : List Operand) : Prop where
  call : decodeOne s = .next (u.returnOk { tag := d.tag, operands := ops })
  pos : u.pos = s.modrmStart 0 + 1
  side : u.sideNow = some { pfx := PrefixSet.empty, rex := s.rexAt s.pos }
  rex : u.rex = s.rexAt s.pos
  length : ops.length = 2
  reg : ops[r.index]? = some (.reg (u.registerOf r.kind (s.modrmAt 0).reg u.rexR))
  rm : ops[op.index]? = some (.reg (u.registerOf op.kind (s.modrmAt 0).rm u.rexB))

/-- With no prefix, a one-byte opcode, and a register form for a descriptor of two operands the call succeeds. -/
theorem exists_twoRegisters {s : State} {d : OpcodeDescriptor} {r op : OperandDescriptor}
    (hl : s.modrmStart 0 < s.len) (hv : s.cfg.prefixOf (s.buf.read s.pos) = none)
    (hesc : s.buf.read (s.opcodeStart 0) ≠ s.cfg.esc) (hc : s.cfg.t1.get (s.buf.read (s.opcodeStart 0)) = some d)
    (hwf : d.wf s.cfg.nslot = true) (hm : d.modrm = true) (hmem : d.m = none) (hlen : d.operands.length = 2)
    (hr : d.deref d.r = some r) (hop : d.deref d.opRole = some op) (hmod : (s.modrmAt 0).mod = 3#2) :
    ∃ u ops, s.TwoRegisters d r op u ops := by
  have hcell : cellOf s.cfg (s.opcodeAt (s.opcodeStart 0)) = some d := by rwa [State.opcodeAt, if_pos hesc]
  have hcall := decodeOne_oneByte (Nat.lt_of_le_of_lt (Nat.le_add_right _ _) hl) hv hesc hc hwf
  have hgo := amode_register (s := (s.scanned 0 PrefixSet.empty).resolvedWith d) rfl hm hr hop hl rfl hmod hmem
  have hdecoded := amode_decoded (n := 0) (q := PrefixSet.empty) ⟨nofun, hv⟩ hcell hwf hl.le
  rw [hgo, Flow.ensures_go] at hdecoded
  obtain ⟨l, hslots, hof⟩ := hdecoded.slots
  obtain ⟨ops, hops⟩ := exists_collectSlots_fixSlots hwf hof.length_eq fun o ho _ => hof.filled_of_two hwf hm hlen ho
  rw [afterOpcode, hgo, Flow.finish_go, fixresAndReturn_of_collectSlots hdecoded.desc hslots hops] at hcall
  have hfix := collectSlots_eq_some.mp hops
  obtain ⟨hopr, hoprm⟩ := hof.operands hwf hm hfix
  obtain ⟨x, hx, hxs⟩ := hoprm op hop
  obtain ⟨-, rfl⟩ := hx.reg hmod
  have hlenops : ops.length = 2 := by
    rw [← List.length_map (f := some), ← hfix, fixSlots_length, hof.length_eq, hlen]
  exact ⟨_, ops, hcall, rfl, rfl, hdecoded.rex, hlenops, hopr r hr, hxs⟩

/-- The register of a field with REX.w 1 in the general class. -/
theorem registerOf_w64 {s : State} (hw : s.rexW = true) {kind : OperandKind} (hk : kind = .gpr ∨ kind = .rm)
    (raw : BitVec 3) : s.registerOf kind raw false = { cls := .gpr, width := some .w64, idx := ext4 raw false } := by
  rcases hk with rfl | rfl <;> simp [State.registerOf, hw, ext4_eq]

/-- Settles O59: REX.w, the cell of 89, and the register form of D8. -/
theorem example4889D8 : Obligations.Example4889D8 := by
  intro s d r rm hcell hc hwf hr hrm hv hesc hl hb0 hb1 hb2
  obtain ⟨hlen, hm, hmem, hrk, hrmk⟩ := (cell89Ok_iff hc hr hrm).mp hcell
  have hop : d.deref d.opRole = some rm := by rw [← hrm, OpcodeDescriptor.opRole, hmem]
  have hrex : s.rexAt s.pos = some { w := true, r := false, x := false, b := false } := by
    simp only [State.rexAt, hb0]; rfl
  have hstart : s.opcodeStart 0 = s.pos + 1 := by simp [State.opcodeStart, hrex]
  have hone : s.opcodeAt (s.pos + 1) = .one 0x89#8 := by simp [State.opcodeAt, hb1, Ne.symm hesc]
  have hmodrm : s.modrmStart 0 = s.pos + 2 := by rw [State.modrmStart, hstart, hone]; rfl
  have hbyte : s.modrmAt 0 = ⟨3#2, 3#3, 0#3⟩ := by rw [State.modrmAt, hmodrm, hb2]; rfl
  obtain ⟨u, ops, hu⟩ := exists_twoRegisters (s := s) (by omega) (by rwa [hb0]) (by rw [hstart, hb1]; exact hesc.symm)
    (by rwa [hstart, hb1]) hwf hm hmem hlen hr hop (by rw [hbyte])
  have hbits : ∀ bit, rexBit u.rex bit = bit { w := true, r := false, x := false, b := false } := fun bit => by
    rw [hu.rex, hrex]; rfl
  refine ⟨_, ops, hu.call, rfl, hu.pos.trans (by rw [hmodrm]), hu.length, ?_, ?_, ?_⟩
  · rw [hu.reg, hbyte, State.rexR, hbits, registerOf_w64 (hbits RexFlags.w) (.inl hrk)]
    rfl
  · rw [hu.rm, hbyte, State.rexB, hbits, registerOf_w64 (hbits RexFlags.w) hrmk]
    rfl
  · simp only [State.sidePort, State.returnOk_out, Option.bind_some, hu.side, hrex]
    rfl

end Sys2Proof.Machine
end

section
/-! SUPPORT. A call reads the parameters and the bytes from the cursor on, and nothing else (46_orchestrator.md R268;
42_opcode_resolver.md R176): stage by stage, two calls that see the same bytes keep in step. -/

namespace Sys2Proof.Machine

/-! ## Two calls in step -/

/-- The registers of `u`, over the buffer, the cursor and the caller of `c`. -/
def State.over (u c : State) : State :=
  { u with buf := c.buf, len := c.len, pos := c.pos, pos0 := c.pos0, host := c.host, drawn := c.drawn }

/-- Two calls, begun at `s` and `t`, which see the same bytes, have come equally far: `b` is `a` over the buffer, the
cursor and the caller of `t`. -/
structure InStep (s t a b : State) : Prop where
  view : s.sameView t
  buf : a.buf = s.buf
  len : a.len = s.len
  pos : s.pos ≤ a.pos
  eq : b = a.over { t with pos := t.pos + (a.pos - s.pos), pos0 := some t.pos }

theorem InStep.cfg {s t a b : State} (h : InStep s t a b) : b.cfg = a.cfg := by rw [h.eq]; rfl

theorem InStep.rex {s t a b : State} (h : InStep s t a b) : b.rex = a.rex := by rw [h.eq]; rfl

theorem InStep.desc {s t a b : State} (h : InStep s t a b) : b.desc = a.desc := by rw [h.eq]; rfl

theorem InStep.slots {s t a b : State} (h : InStep s t a b) : b.slots = a.slots := by rw [h.eq]; rfl

theorem InStep.sideNow {s t a b : State} (h : InStep s t a b) : b.sideNow = a.sideNow := by rw [h.eq]; rfl

/-- Both calls have consumed the same number of bytes. -/
theorem InStep.moved {s t a b : State} (h : InStep s t a b) : ∃ n, a.pos = s.pos + n ∧ b.pos = t.pos + n :=
  ⟨a.pos - s.pos, (Nat.add_sub_cancel' h.pos).symm, by rw [h.eq]; rfl⟩

/-- Both calls have bytes left, or neither. -/
theorem InStep.fits {s t a b : State} (h : InStep s t a b) {k : Nat} (hk : 0 < k) :
    b.pos + k ≤ b.len ↔ a.pos + k ≤ a.len := by
  obtain ⟨⟨-, hlen, -⟩, -, ha, hp, rfl⟩ := h
  simp only [State.over]
  omega

/-- The bytes at their cursors are the same. -/
theorem InStep.byte {s t a b : State} (h : InStep s t a b) {k : Nat} (hk : a.pos + k < a.len) :
    b.buf.read (b.pos + k) = a.buf.read (a.pos + k) := by
  obtain ⟨⟨-, -, hread⟩, hbuf, ha, hp, rfl⟩ := h
  have hsame := hread (a.pos - s.pos + k) (by omega)
  rw [show s.pos + (a.pos - s.pos + k) = a.pos + k by omega] at hsame
  rw [hbuf, hsame, ← Nat.add_assoc]
  rfl

theorem InStep.advance {s t a b : State} (h : InStep s t a b) (k : Nat) :
    InStep s t { a with pos := a.pos + k } { b with pos := b.pos + k } := by
  obtain ⟨hv, hbuf, ha, hp, rfl⟩ := h
  have hpos : t.pos + (a.pos + k - s.pos) = t.pos + (a.pos - s.pos) + k := by omega
  exact ⟨hv, hbuf, ha, Nat.le_add_right_of_le hp, by simp only [State.over, hpos]⟩

/-- The same change to both states, of a register that is the block's own. -/
theorem InStep.map {s t a b : State} (h : InStep s t a b) (f : State → State)
    (hf : ∀ u c : State, f (u.over c) = (f u).over c) : InStep s t (f a) (f b) := by
  have hfa : f a = (f a).over a := hf a a
  obtain ⟨hv, hbuf, hlen, hp, rfl⟩ := h
  have hpos : (f a).pos = a.pos := (congrArg State.pos hfa :)
  exact ⟨hv, (congrArg State.buf hfa).trans hbuf, (congrArg State.len hfa).trans hlen, hpos ▸ hp, by rw [hf, hpos]⟩

theorem InStep.peek {s t a b : State} (h : InStep s t a b) : b.peek = a.peek := by
  unfold State.peek
  by_cases hl : a.pos + 1 ≤ a.len
  · rw [if_pos hl, if_pos ((h.fits Nat.one_pos).mpr hl)]
    exact congrArg some (h.byte (k := 0) hl)
  · rw [if_neg hl, if_neg fun hb => hl ((h.fits Nat.one_pos).mp hb)]

/-- A primitive answers both calls alike: neither is answered, or both are, with one answer, and stay in step. -/
def SameAnswer (s t : State) {α : Type} (p q : Option (α × State)) : Prop :=
  (p = none ∧ q = none) ∨ ∃ x a b, p = some (x, a) ∧ q = some (x, b) ∧ InStep s t a b

/-- A primitive that reads `k` bytes. -/
theorem InStep.answer {s t a b : State} (h : InStep s t a b) {α : Type} {x y : α} {k : Nat} (hk : 0 < k)
    (hxy : a.pos + k ≤ a.len → y = x) :
    SameAnswer s t (if a.pos + k ≤ a.len then some (x, { a with pos := a.pos + k }) else none)
      (if b.pos + k ≤ b.len then some (y, { b with pos := b.pos + k }) else none) := by
  by_cases hl : a.pos + k ≤ a.len
  · rw [if_pos hl, if_pos ((h.fits hk).mpr hl), hxy hl]
    exact .inr ⟨x, _, _, rfl, rfl, h.advance k⟩
  · rw [if_neg hl, if_neg fun hb => hl ((h.fits hk).mp hb)]
    exact .inl ⟨rfl, rfl⟩

theorem InStep.readU8 {s t a b : State} (h : InStep s t a b) : SameAnswer s t a.readU8 b.readU8 :=
  h.answer Nat.one_pos fun hl => h.byte (k := 0) hl

theorem InStep.readI8 {s t a b : State} (h : InStep s t a b) : SameAnswer s t a.readI8 b.readI8 :=
  h.answer Nat.one_pos fun hl => congrArg BitVec.toInt (h.byte (k := 0) hl)

theorem InStep.readI32 {s t a b : State} (h : InStep s t a b) : SameAnswer s t a.readI32 b.readI32 :=
  h.answer (k := 4) (by omega) fun hl => by
    rw [h.byte (k := 1) (by omega), h.byte (k := 2) (by omega), h.byte (k := 3) (by omega)]
    exact congrArg (fun v => (le32 v _ _ _).toInt) (h.byte (k := 0) (by omega))

/-! ## Outcomes -/

/-- The result, the side outputs and, on success, the bytes consumed are the same; or the refusal is. -/
def SameOutcome (s t : State) (x y : Result) : Prop :=
  match x, y with
  | .next a, .next b =>
    a.result = b.result ∧ a.sidePort = b.sidePort ∧
      (∀ i, a.result = some (.ok i) → ∃ n, a.pos = s.pos + n ∧ b.pos = t.pos + n)
  | .refused a, .refused b => a = b
  | _, _ => False

/-- A stage goes on in both calls, which stay in step, or ends both with one outcome. -/
def Flow.InStep (s t : State) (f g : Flow) : Prop :=
  match f, g with
  | .go a, .go b => Machine.InStep s t a b
  | .stop x, .stop y => SameOutcome s t x y
  | _, _ => False

theorem Flow.InStep.finish {s t : State} {f g : Flow} {j k : State → Result} (h : Flow.InStep s t f g)
    (hjk : ∀ a b, Machine.InStep s t a b → SameOutcome s t (j a) (k b)) :
    SameOutcome s t (f.finish j) (g.finish k) := by
  cases f <;> cases g
  · exact hjk _ _ h
  · cases h
  · cases h
  · exact h

theorem InStep.raise {s t a b : State} (h : InStep s t a b) (e : DecodeError) :
    Flow.InStep s t (Flow.raise a e) (Flow.raise b e) := by
  refine ⟨rfl, ?_, nofun⟩
  simp only [State.sidePort, State.raiseError_out, h.sideNow]

theorem InStep.fixres {s t a b : State} (h : InStep s t a b) :
    SameOutcome s t (fixresAndReturn a) (fixresAndReturn b) := by
  simp only [fixresAndReturn, h.desc, h.slots, State.rexB, h.rex]
  split
  · split
    · refine ⟨rfl, ?_, fun _ _ => h.moved⟩
      simp only [State.sidePort, State.returnOk_out, h.sideNow]
    · rfl
  · rfl

/-! ## Stages -/

theorem Flow.inStep_ite {s t : State} {c : Prop} [Decidable c] {f f' g g' : Flow}
    (hf : c → Flow.InStep s t f f') (hg : ¬ c → Flow.InStep s t g g') :
    Flow.InStep s t (if c then f else g) (if c then f' else g') := by
  split
  · exact hf ‹_›
  · exact hg ‹_›

theorem InStep.pfxScan {s t : State} (n : Nat) {a b : State} (h : InStep s t a b) :
    Flow.InStep s t (pfxScan n a) (pfxScan n b) := by
  induction n generalizing a b with
  | zero => exact h
  | succ n ih =>
    have hprefix : b.cfg.prefixOf = a.cfg.prefixOf := by rw [h.cfg]
    simp only [Machine.pfxScan, h.peek, hprefix]
    split
    · exact h.raise .truncated
    · split
      · exact h
      · exact ih ((h.advance 1).map (fun u => { u with pfx := u.pfx.set _ }) fun _ _ => rfl)

theorem InStep.rexDec {s t a b : State} (h : InStep s t a b) : Flow.InStep s t (rexDec a) (rexDec b) := by
  simp only [Machine.rexDec, h.peek]
  split
  · exact h.raise .truncated
  · refine Flow.inStep_ite (fun _ => ?_) fun _ => ?_
    · exact (h.advance 1).map (fun u => { u with rex := some _, stage := .opcode }) fun _ _ => rfl
    · exact h.map (fun u => { u with rex := none, stage := .opcode }) fun _ _ => rfl

theorem InStep.takeEntry {s t a b : State} (h : InStep s t a b) (e : Option OpcodeDescriptor) (o : OpcBytes) :
    Flow.InStep s t (takeEntry e o a) (takeEntry e o b) := by
  have hnslot : b.cfg.nslot = a.cfg.nslot := by rw [h.cfg]
  cases e with
  | none => exact h.raise .unknownOpcode
  | some d =>
    simp only [Machine.takeEntry, hnslot]
    refine Flow.inStep_ite (fun _ => ?_) fun _ => rfl
    exact h.map (fun u =>
      { u with opc := some o, desc := some d, slots := some (List.replicate d.operands.length none) }) fun _ _ => rfl

theorem InStep.opcRes {s t a b : State} (h : InStep s t a b) : Flow.InStep s t (opcRes a) (opcRes b) := by
  unfold Machine.opcRes
  rw [h.cfg]
  rcases h.readU8 with ⟨ha, hb⟩ | ⟨o1, a1, b1, ha, hb, h1⟩ <;> simp only [ha, hb]
  · exact h.raise .truncated
  refine Flow.inStep_ite (fun _ => h1.takeEntry _ _) fun _ => ?_
  rcases h1.readU8 with ⟨ha, hb⟩ | ⟨o2, a2, b2, ha, hb, h2⟩ <;> simp only [ha, hb]
  · exact h1.raise .truncated
  refine Flow.inStep_ite (fun _ => ?_) fun _ => Flow.inStep_ite (fun _ => ?_) fun _ => h2.takeEntry _ _
  · rcases h2.readU8 with ⟨ha, hb⟩ | ⟨o3, a3, b3, ha, hb, h3⟩ <;> simp only [ha, hb]
    · exact h2.raise .truncated
    · exact h3.takeEntry _ _
  · rcases h2.readU8 with ⟨ha, hb⟩ | ⟨o3, a3, b3, ha, hb, h3⟩ <;> simp only [ha, hb]
    · exact h2.raise .truncated
    · exact h3.takeEntry _ _

theorem InStep.storeAndGo {s t a b : State} (h : InStep s t a b) (op : OperandDescriptor) (v : Operand) :
    Flow.InStep s t (storeAndGo op v a) (storeAndGo op v b) :=
  h.map (fun u => u.setSlot op.index v) fun _ _ => rfl

theorem InStep.withDisp {s t a b : State} (h : InStep s t a b) (m : BitVec 2) {j k : Int → State → Flow}
    (hjk : ∀ x a' b', InStep s t a' b' → Flow.InStep s t (j x a') (k x b')) :
    Flow.InStep s t (withDisp m a j) (withDisp m b k) := by
  unfold Machine.withDisp
  by_cases hm : m = 1#2
  · simp only [if_pos hm]
    rcases h.readI8 with ⟨ha, hb⟩ | ⟨x, a', b', ha, hb, h'⟩ <;> simp only [ha, hb]
    · exact h.raise .truncated
    · exact hjk x a' b' h'
  · simp only [if_neg hm]
    rcases h.readI32 with ⟨ha, hb⟩ | ⟨x, a', b', ha, hb, h'⟩ <;> simp only [ha, hb]
    · exact h.raise .truncated
    · exact hjk x a' b' h'

/-- The registers and the index term of a field are read from REX alone. -/
theorem InStep.regdes {s t a b : State} (h : InStep s t a b) : b.regdes = a.regdes := by rw [h.eq]; rfl

theorem InStep.indexTerm {s t a b : State} (h : InStep s t a b) : b.indexTerm = a.indexTerm := by rw [h.eq]; rfl

theorem InStep.rexBits {s t a b : State} (h : InStep s t a b) :
    b.rexR = a.rexR ∧ b.rexX = a.rexX ∧ b.rexB = a.rexB := by rw [h.eq]; exact ⟨rfl, rfl, rfl⟩

theorem InStep.memFlow {s t a b : State} (h : InStep s t a b) (k : MemMod) (op : OperandDescriptor)
    (e : Option Int → MemoryExpr) : Flow.InStep s t (memFlow k op e a) (memFlow k op e b) :=
  Flow.inStep_ite (fun _ => h.storeAndGo _ _) fun _ => h.withDisp _ fun _ _ _ h' => h'.storeAndGo _ _

theorem InStep.sibFlow {s t a b : State} (h : InStep s t a b) (op : OperandDescriptor) (k : MemMod) (x : Sib) :
    Flow.InStep s t (sibFlow op k x a) (sibFlow op k x b) := by
  obtain ⟨-, -, hb⟩ := h.rexBits
  simp only [Machine.sibFlow, h.cfg, h.indexTerm, h.regdes, hb]
  refine Flow.inStep_ite (fun _ => ?_) fun _ => h.memFlow _ _ _
  exact Flow.inStep_ite (fun _ => h.memFlow _ _ _) fun _ => h.memFlow _ _ _

theorem InStep.amodeSib {s t a b : State} (h : InStep s t a b) (op : OperandDescriptor) (k : MemMod) :
    Flow.InStep s t (amodeSib op k.field a) (amodeSib op k.field b) := by
  have hfits := h.fits Nat.one_pos
  by_cases hl : a.pos < a.len
  · have hbyte : b.buf.read b.pos = a.buf.read a.pos := h.byte (k := 0) hl
    rw [amodeSib_of_lt hl, amodeSib_of_lt (hfits.mpr hl), hbyte]
    exact ((h.advance 1).map (fun u => { u with sib := some _ }) fun _ _ => rfl).sibFlow op k _
  · rw [amodeSib_of_le (Nat.not_lt.mp hl), amodeSib_of_le (Nat.not_lt.mp (mt hfits.mp hl))]
    exact h.raise .truncated

theorem InStep.amodeRm {s t a b : State} (h : InStep s t a b) (d : OpcodeDescriptor) (op : OperandDescriptor)
    (v : ModRM) : Flow.InStep s t (amodeRm d op v a) (amodeRm d op v b) := by
  obtain ⟨-, hx, hb⟩ := h.rexBits
  simp only [Machine.amodeRm, h.regdes, hx, hb]
  refine Flow.inStep_ite (fun hsib => ?_) fun _ => ?_
  · obtain ⟨k, hk⟩ := (mod_cases v.mod).resolve_left hsib.1
    rw [hk]
    exact h.amodeSib op k
  refine Flow.inStep_ite (fun _ => ?_) fun _ => ?_
  · exact Flow.inStep_ite (fun _ => h.raise .invalidEncoding) fun _ => h.storeAndGo _ _
  refine Flow.inStep_ite (fun _ => h.raise .invalidEncoding) fun _ => ?_
  refine Flow.inStep_ite (fun _ => h.storeAndGo _ _) fun _ => ?_
  exact h.withDisp v.mod fun _ _ _ h' => h'.storeAndGo _ _

theorem InStep.amode {s t a b : State} (h : InStep s t a b) : Flow.InStep s t (amode a) (amode b) := by
  unfold Machine.amode
  rw [h.desc]
  cases a.desc with
  | none => exact rfl
  | some d =>
    refine Flow.inStep_ite (fun _ => ?_) fun _ => h
    rcases h.readU8 with ⟨ha, hb⟩ | ⟨v, a1, b1, ha, hb, h1⟩ <;> simp only [ha, hb]
    · exact h.raise .truncated
    cases d.deref d.r with
    | none => exact rfl
    | some r =>
      cases d.deref d.opRole with
      | none => exact rfl
      | some op =>
        exact (h1.map (fun u => State.setSlot { u with modrm := some (ModRM.ofByte v) } r.index
          (.reg (u.regdes r.kind (ext4 (ModRM.ofByte v).reg u.rexR)))) fun _ _ => rfl).amodeRm d op _

/-- A call begins with fresh working registers, whatever an earlier one left. -/
theorem InStep.beginCall {s t : State} (h : s.sameView t) : InStep s t s.beginCall t.beginCall := by
  have hcfg : t.cfg = s.cfg := h.1.symm
  exact ⟨h, rfl, rfl, le_rfl, by simp [State.over, State.beginCall, State.discardWork, hcfg]⟩

/-- Settles O55: the two calls keep in step through the four stages, and FIXRES returns one result. -/
theorem outcomeDependsOnlyOnTheBytesAhead : Obligations.OutcomeDependsOnlyOnTheBytesAhead := by
  intro s t hv
  have hfuel : t.len - t.pos = s.len - s.pos := hv.2.1.symm
  have h : SameOutcome s t (decodeOne s) (decodeOne t) := by
    rw [decodeOne_eq, decodeOne_eq, hfuel]
    exact ((InStep.beginCall hv).pfxScan _).finish fun _ _ h => h.rexDec.finish fun _ _ h =>
      h.opcRes.finish fun _ _ h => h.amode.finish fun _ _ h => h.fixres
  exact h

end Sys2Proof.Machine
end

section
/-! SUPPORT. The start of a call and the reset of the block (60_exceptions.md R292; 10_state.md R48;
70_reset_and_hazards.md R320, R321). -/

namespace Sys2Proof.Machine

/-- Settles O38: the step is the start of a call, which takes a value from the cursor and the parameters alone. -/
theorem everyCallStartsFresh : Obligations.EveryCallStartsFresh := by
  intro s rest hs hh
  refine ⟨_, (step_idle hs).trans (hostStep_start hh), PrefixSet.get_empty, ?_⟩
  simp [State.status]

theorem hostStep_reset {s : State} {rest : List HostMove} (hh : s.host = .reset :: rest) :
    hostStep s = .next { s.resetBlock with host := rest } := by
  simp [hostStep, hh]

/-- Settles O39: between calls the reset leaves the cursor, and in a call the cursor is drawn. -/
theorem resetLosesTheCallAndKeepsTheBuffer : Obligations.ResetLosesTheCallAndKeepsTheBuffer := by
  intro s rest hh
  by_cases hs : s.stage = .idle
  · exact ⟨_, (step_idle hs).trans (hostStep_reset hh), rfl, rfl, rfl, rfl, rfl, rfl, rfl, fun _ => rfl,
      fun h => absurd hs h⟩
  · exact ⟨_, step_reset hs hh, rfl, rfl, rfl, rfl, rfl, rfl, rfl, fun h => absurd h hs,
      fun _ => ⟨rfl, s.drawPos_le⟩⟩

end Sys2Proof.Machine
end

section
/-! SUPPORT. What each row runs, the four formats that build a memory operand as one; and the rows whose bytes are not
all there (60_exceptions.md R285; 20_memory.md R62). -/

namespace Sys2Proof.Machine

/-! ## The operations of the rows -/

/-- The formats of a row; the four that build a memory operand are one operation with different expressions. -/
inductive RowOperation (s : State) (i : Instr) : Prop
  | opcode (o : OpcBytes) (ho : opcodeOf s.cfg i.row = some o)
  | pfx (f : PfxFlag) (hr : i.row = .pfx f)
  | rexByte (w r x b : Bool) (hr : i.row = .rexByte w r x b)
  | reg (mod : BitVec 2) (reg rm : BitVec 3) (hr : i.row = .reg mod reg rm)
  | invalid (h : RaisesInvalid i.row)
  | direct (rm : BitVec 3) (hr : i.row = .direct false rm)
  | follows (k : MemMod) (hr : i.row = .follows k)
  | mem (k : MemMod) (e : OperandDescriptor → Option Int → MemoryExpr) (hb : i.row.buildsMem = true)
      (hc : i.row.consumes = k.dispBytes) (hx : exec i s = memOp k e s)

theorem rowOperation (s : State) (i : Instr) : RowOperation s i := by
  rcases row_cases i s with ⟨o, ho, -⟩ | ⟨f, hr, -⟩ | ⟨w, r, x, b, hr, -⟩ | ⟨mod, reg, rm, hr, -⟩ | ⟨h, -⟩ |
    ⟨rm, hr, -⟩ | ⟨k, hr, -⟩ | ⟨k, rm, hr, hx⟩ | ⟨k, idx, bs, ss, hr, hx⟩ | ⟨idx, bs, ss, hr, hx⟩ |
    ⟨k, idx, bs, ss, hr, hk, hx⟩
  · exact .opcode o ho
  · exact .pfx f hr
  · exact .rexByte w r x b hr
  · exact .reg mod reg rm hr
  · exact .invalid h
  · exact .direct rm hr
  · exact .follows k hr
  · exact .mem k _ (by rw [hr]; rfl) (by rw [hr]; rfl) hx
  · exact .mem k _ (by rw [hr]; rfl) (by rw [hr]; cases k <;> rfl) hx
  · exact .mem .m2 _ (by rw [hr]; rfl) (by rw [hr]; rfl) hx
  · refine .mem k _ (by rw [hr]; rfl) ?_ hx
    rw [hr]
    cases k with
    | m0 => exact absurd rfl hk
    | m1 | m2 => rfl

/-- A row that raises InvalidEncoding reads no byte. -/
theorem RaisesInvalid.consumes_eq_zero {r : Row} (h : RaisesInvalid r) : r.consumes = 0 := by
  rcases h with ⟨rm, rfl⟩ | ⟨k, rm, rfl⟩ <;> rfl

/-! ## Missing bytes -/

/-- Truncated with the side output of the stage; past the scan it is shown. -/
theorem truncated_of_sideNow {s : State} {r : Result} (h : r = .next (errorState s s.sideNow .truncated)) :
    ∃ side, r = .next (errorState s side .truncated) ∧
      (s.stage ≠ .scan → side = some { pfx := s.pfx, rex := s.rex }) :=
  ⟨_, h, fun hs => (sideNow_eq s).trans (if_neg hs)⟩

/-- Settles O29, operation by operation: each that reads a byte raises Truncated where its bytes end. -/
theorem rowsShortOfBytesRaiseTruncated : Obligations.RowsShortOfBytesRaiseTruncated := by
  intro s i hop hp hlen
  cases rowOperation s i with
  | opcode o ho =>
    obtain ⟨hx, hc⟩ := exec_opcodeOf (s := s) ho
    exact ⟨_, hx.trans (opcodeRow_truncated (hc ▸ hlen)), fun _ => rfl⟩
  | pfx f hr =>
    rw [hr] at hlen
    exact truncated_of_sideNow ((exec_pfx hr s).trans (pfxRow_truncated hlen f))
  | rexByte w r x b hr =>
    rw [hr] at hlen
    exact truncated_of_sideNow ((exec_rexByte hr s).trans (rexRow_truncated hlen w r x b))
  | reg mod reg rm hr =>
    rw [hr] at hlen
    exact truncated_of_sideNow ((exec_reg hr s).trans (regRow_truncated hlen mod reg rm))
  | invalid h =>
    rw [h.consumes_eq_zero] at hlen
    exact absurd hp (Nat.not_le.mpr hlen)
  | direct rm hr =>
    rw [hr] at hlen
    exact absurd hp (Nat.not_le.mpr hlen)
  | follows k hr =>
    rw [hr] at hlen
    exact truncated_of_sideNow ((exec_follows hr s).trans (followsRow_truncated hlen))
  | mem k e hb hc hx =>
    obtain ⟨o, ho⟩ := Option.isSome_iff_exists.mp (hop hb)
    exact truncated_of_sideNow (hx.trans (memOp_truncated ho (hc ▸ hlen) hp e))

end Sys2Proof.Machine
end

section
/-! SUPPORT. Nothing the stream holds is refused under well-formed parameters (93_implementation_defined.md U10;
70_reset_and_hazards.md R322): every stage of the invariant has a row to fetch, the row finds its descriptor and its
operand, and FIXRES finds every slot that ModRM decoding owes. -/

namespace Sys2Proof

/-! ## Well-formed tables and descriptors -/

theorem OpcodeTable.wf_of_get {t : OpcodeTable} {nslot : Option Nat} (h : t.wf nslot = true) {v : Byte}
    {d : OpcodeDescriptor} (hd : t.get v = some d) : d.wf nslot = true := by
  obtain ⟨c, hc, rfl⟩ := Option.map_eq_some_iff.mp hd
  exact List.all_eq_true.mp h c (List.mem_of_find?_eq_some hc)

/-- The descriptor of a cell is well-formed, whichever table has it (70_reset_and_hazards.md R322). -/
theorem Params.wf_of_cellOf {p : Params} (h : p.wf = true) {o : Machine.OpcBytes} {d : OpcodeDescriptor}
    (hd : Machine.cellOf p o = some d) : d.wf p.nslot = true := by
  simp only [Params.wf, Bool.and_eq_true] at h
  obtain ⟨⟨⟨⟨⟨⟨⟨h1, h2⟩, h3a⟩, h3b⟩, -⟩, -⟩, -⟩, -⟩ := h
  cases o with
  | one o1 => exact OpcodeTable.wf_of_get h1 hd
  | two o1 o2 => exact OpcodeTable.wf_of_get h2 hd
  | threeA o1 o2 o3 => exact OpcodeTable.wf_of_get h3a hd
  | threeB o1 o2 o3 => exact OpcodeTable.wf_of_get h3b hd

theorem OpcodeDescriptor.w4From_getElem {d : OpcodeDescriptor} {n : Nat} {ops : List OperandDescriptor}
    (h : d.w4From n ops = true) {k : Nat} {o : OperandDescriptor} (ho : ops[k]? = some o) (hk : o.kind ≠ .fixed) :
    d.hasRole (n + k) = true := by
  induction ops generalizing n k with
  | nil => cases ho
  | cons p rest ih =>
    simp only [OpcodeDescriptor.w4From, Bool.and_eq_true, beq_iff_eq] at h
    obtain ⟨hp, hrest⟩ := h
    cases k with
    | zero =>
      obtain rfl : p = o := Option.some.inj ho
      simpa [beq_eq_false_iff_ne.mpr hk] using hp
    | succ k =>
      rw [show n + (k + 1) = n + 1 + k by omega]
      exact ih hrest ho

/-- W3 and W4: an operand that is not FIXED is the one of `r` or of `op`, and its descriptor has ModRM. -/
theorem OpcodeDescriptor.role_of_notFixed {d : OpcodeDescriptor} {nslot : Option Nat} (h : d.wf nslot = true)
    {o : OperandDescriptor} (ho : o ∈ d.operands) (hk : o.kind ≠ .fixed) :
    d.modrm = true ∧ (d.deref d.r = some o ∨ d.deref d.opRole = some o) := by
  obtain ⟨-, -, -, h4, -⟩ := d.wf_iff.mp h
  obtain ⟨k, hko⟩ := List.mem_iff_getElem?.mp ho
  have hrole : d.hasRole k = true := by simpa using OpcodeDescriptor.w4From_getElem h4 hko hk
  simp only [OpcodeDescriptor.hasRole, Bool.or_eq_true, beq_iff_eq] at hrole
  have hderef : ∀ {role : Option Nat}, role = some k → d.deref role = some o := fun hr => by
    rw [hr]; exact hko
  rcases hrole with (hr | hm) | hrm
  · exact ⟨Machine.modrm_of_role h (.inl rfl) (hderef hr), .inl (hderef hr)⟩
  · obtain ⟨hop, -⟩ := d.opRole_of_m (hderef hm)
    exact ⟨Machine.modrm_of_role h (.inr (.inl rfl)) (hderef hm), .inr hop⟩
  · have hmodrm := Machine.modrm_of_role h (.inr (.inr rfl)) (hderef hrm)
    obtain ⟨-, -, -, hone⟩ := d.roles_of_wf h hmodrm
    exact ⟨hmodrm, .inr (d.opRole_of_rm hone (hderef hrm))⟩

namespace Machine

/-! ## The fetch -/

theorem decodeOpcode_ne_noForm (p : Params) (v : Byte) (rest : List Byte) :
    decodeOpcode p v rest ≠ .error .noForm := by
  unfold decodeOpcode
  split
  · simp
  · split
    · simp
    · split
      · split <;> simp
      · split
        · split <;> simp
        · simp

/-- Every stage that fetches finds the form it reads: bytes, or the ModRM and SIB bytes read before. -/
theorem fetch_ne_noForm {s : State} (hs : s.stage ≠ .idle) (hfix : s.stage ≠ .fixed) (hw : s.workOk = true) :
    s.fetch ≠ .error .noForm := by
  have hend : s.fetch = .error .truncated → s.fetch ≠ .error .noForm := fun h => by simp [h]
  cases hst : s.stage with
  | idle => contradiction
  | fixed => contradiction
  | scan =>
    by_cases hl : s.pos < s.len
    · rw [fetch_scan hst hl]
      split
      · simp
      · split
        · simp
        · exact decodeOpcode_ne_noForm _ _ _
    · exact hend (fetch_end (.inl hst) (Nat.not_lt.mp hl))
  | opcode =>
    by_cases hl : s.pos < s.len
    · rw [fetch_opcode hst hl]
      exact decodeOpcode_ne_noForm _ _ _
    · exact hend (fetch_end (.inr (.inl hst)) (Nat.not_lt.mp hl))
  | modrm =>
    by_cases hl : s.pos < s.len
    · simp [fetch_modrm hst hl]
    · exact hend (fetch_end (.inr (.inr hst)) (Nat.not_lt.mp hl))
  | rm =>
    obtain ⟨-, hv, -⟩ := State.modrmRead_of_workOk (.inl hst) hw
    obtain ⟨v, hv⟩ := Option.isSome_iff_exists.mp hv
    simp [fetch_rm hst hv]
  | sib =>
    obtain ⟨-, -, hx, -, v, hv, hsib⟩ := (State.workOk_sib_iff hst).mp hw
    obtain ⟨x, hx⟩ := Option.isSome_iff_exists.mp hx
    obtain ⟨⟨k, hk⟩, hr⟩ := ModRM.exists_field_of_hasSib hsib
    simp [fetch_sib hst hv hx, decodeSib_ok hk hr]

/-! ## The rows -/

theorem opcodeRow_answers {s : State} {o : OpcBytes} (h : ∀ d, cellOf s.cfg o = some d → d.wf s.cfg.nslot = true) :
    ∃ t, opcodeRow o s = .next t := by
  by_cases hp : s.pos + o.count ≤ s.len
  · cases hc : cellOf s.cfg o with
    | none => exact ⟨_, opcodeRow_unknown hp ((o.entry_eq s.cfg).trans hc)⟩
    | some d => exact ⟨_, opcodeRow_resolved hp ((o.entry_eq s.cfg).trans hc) (h d hc)⟩
  · exact ⟨_, opcodeRow_truncated (Nat.not_le.mp hp)⟩

theorem memOp_answers {s : State} {o : OperandDescriptor} (ho : s.opRole = some o) (k : MemMod)
    (e : OperandDescriptor → Option Int → MemoryExpr) : ∃ t, memOp k e s = .next t := by
  rcases s.readDisp_cases k with ⟨-, hr⟩ | ⟨-, hr⟩
  · exact ⟨_, by simp only [memOp, ho, hr, storeOp]; rfl⟩
  · exact ⟨_, by simp only [memOp, ho, hr]; rfl⟩

/-- The stages of AMODE have a descriptor with ModRM, so both its operands (W3). -/
theorem State.exists_roles_of_workOk {s : State} (hs : s.stage = .modrm ∨ s.stage = .rm ∨ s.stage = .sib)
    (hw : s.workOk = true) : ∃ r op, s.regRole = some r ∧ s.opRole = some op := by
  have hres : s.resolved (fun d => d.modrm) = true := by
    rcases hs with hs | hs
    · obtain ⟨-, -, -, -, -, hres⟩ := (State.workOk_modrm_iff hs).mp hw
      exact hres
    · obtain ⟨-, -, hres, -⟩ := State.modrmRead_of_workOk hs hw
      exact hres
  obtain ⟨d, -, hd, -, hwf, -, hm⟩ := (s.resolved_iff _).mp hres
  rw [State.regRole_of_desc hd, State.opRole_of_desc hd]
  exact exists_roles_of_wf hwf hm

/-- A row read at its stage of the invariant answers a next state. -/
theorem exec_answers {s : State} {i : Instr} (hp : s.cfg.wf = true) (hw : s.workOk = true)
    (hread : rowReadAt s.stage i.row) : ∃ t, exec i s = .next t := by
  cases rowOperation s i with
  | opcode o ho =>
    obtain ⟨hx, -⟩ := exec_opcodeOf (s := s) ho
    exact hx ▸ opcodeRow_answers fun d hc => Params.wf_of_cellOf hp hc
  | pfx f hr =>
    rw [exec_pfx hr]
    by_cases hl : s.pos < s.len
    · exact ⟨_, pfxRow_of_lt hl f⟩
    · exact ⟨_, pfxRow_truncated (by omega) f⟩
  | rexByte w r x b hr =>
    rw [exec_rexByte hr]
    by_cases hl : s.pos < s.len
    · exact ⟨_, rexRow_of_lt hl w r x b⟩
    · exact ⟨_, rexRow_truncated (by omega) w r x b⟩
  | reg mod reg rm hr =>
    rw [hr] at hread
    obtain ⟨o, -, ho, -⟩ := State.exists_roles_of_workOk (.inl hread) hw
    rw [exec_reg hr]
    by_cases hl : s.pos < s.len
    · exact ⟨_, regRow_of_lt hl ho mod reg rm⟩
    · exact ⟨_, regRow_truncated (by omega) mod reg rm⟩
  | invalid h => exact ⟨_, exec_of_raisesInvalid h s⟩
  | direct rm hr =>
    rw [hr] at hread
    obtain ⟨-, o, -, ho⟩ := State.exists_roles_of_workOk (.inr (.inl hread)) hw
    exact ⟨_, (exec_direct hr s).trans (directRow_eq ho rm)⟩
  | follows k hr =>
    rw [exec_follows hr]
    by_cases hl : s.pos < s.len
    · exact ⟨_, followsRow_of_lt hl⟩
    · exact ⟨_, followsRow_truncated (by omega)⟩
  | mem k e hb hc hx =>
    obtain ⟨-, o, -, ho⟩ := State.exists_roles_of_workOk (.inr (rowReadAt_of_buildsMem hb hread)) hw
    exact hx ▸ memOp_answers ho k e

/-! ## FIXRES -/

/-- At `fixed` every slot that ModRM decoding owes is filled (46_orchestrator.md R262). -/
theorem State.owedSlots_of_workOk {s : State} (hs : s.stage = .fixed) (hw : s.workOk = true) :
    ∃ d l, s.desc = some d ∧ s.slots = some l ∧ d.wf s.cfg.nslot = true ∧ l.length = d.operands.length ∧
      ∀ o ∈ d.operands, o.kind ≠ .fixed → ∃ v, l[o.index]? = some (some v) := by
  obtain ⟨-, -, hres⟩ := (State.workOk_fixed_iff hs).mp hw
  obtain ⟨d, l, hd, hl, hwf, hlen, hq⟩ := (s.resolved_iff _).mp hres
  refine ⟨d, l, hd, hl, hwf, hlen, fun o ho hk => ?_⟩
  have hslot : ∀ {role : Option OperandDescriptor}, role = some o → s.slotFilled role = true →
      ∃ v, l[o.index]? = some (some v) := fun hrole hfill => by
    obtain ⟨o', l', v, ho', hl', hv⟩ := (s.slotFilled_iff _).mp hfill
    cases hrole.symm.trans ho'
    cases hl.symm.trans hl'
    exact ⟨v, hv⟩
  obtain ⟨hm, hrole⟩ := d.role_of_notFixed hwf ho hk
  simp only [hm, Bool.not_true, Bool.false_or, Bool.and_eq_true] at hq
  obtain ⟨⟨-, hreg⟩, hop⟩ := hq
  rcases hrole with hr | hr
  · exact hslot ((State.regRole_of_desc hd).trans hr) hreg
  · exact hslot ((State.opRole_of_desc hd).trans hr) hop

theorem fixresAndReturn_answers {s : State} (hs : s.stage = .fixed) (hw : s.workOk = true) :
    ∃ t, fixresAndReturn s = .next t := by
  obtain ⟨d, l, hd, hl, hwf, hlen, howed⟩ := State.owedSlots_of_workOk hs hw
  obtain ⟨ops, hc⟩ := exists_collectSlots_fixSlots (b := s.rexB) hwf hlen howed
  exact ⟨_, fixresAndReturn_of_collectSlots hd hl hc⟩

/-! ## The step -/

/-- A form of the call, or FIXRES, answers a next state. -/
theorem callStep_answers {s : State} (hs : s.stage ≠ .idle) (hp : s.cfg.wf = true) (hw : s.workOk = true) :
    ∃ t, callStep s = .next t := by
  by_cases hfix : s.stage = .fixed
  · exact callStep_fixed hfix ▸ fixresAndReturn_answers hfix hw
  · cases hf : s.fetch with
    | ok i => exact callStep_ok hfix hf ▸ exec_answers hp hw (fetch_ok hf).rowReadAt
    | error r =>
      cases r with
      | truncated => exact ⟨_, callStep_truncated hfix hf⟩
      | noForm => exact absurd hf (fetch_ne_noForm hs hfix hw)

/-- A move of the caller answers a next state or faults (00_scope.md R19). -/
theorem hostStep_answers (s : State) : (∃ t, hostStep s = .next t) ∨ ∃ f, hostStep s = .fault f := by
  cases hh : s.host with
  | nil => exact .inl ⟨_, hostStep_nil hh⟩
  | cons m rest =>
    cases m with
    | start => exact .inl ⟨_, hostStep_start hh⟩
    | await => exact .inl ⟨_, hostStep_await hh⟩
    | reset => exact .inl ⟨_, hostStep_reset hh⟩
    | setPos p =>
      by_cases hp : p ≤ s.len
      · exact .inl ⟨_, hostStep_setPos_of_le hh hp⟩
      · exact .inr ⟨_, hostStep_setPos_of_lt hh (Nat.not_le.mp hp)⟩
    | load bytes p =>
      by_cases hb : bytes.length < 2 ^ s.cfg.posBits
      · by_cases hp : p ≤ bytes.length
        · exact .inl ⟨_, hostStep_load_of_le hh hb hp⟩
        · exact .inr ⟨_, hostStep_load_of_lt hh hb (Nat.not_le.mp hp)⟩
      · exact .inr ⟨_, hostStep_load_tooLong hh (Nat.not_lt.mp hb)⟩

/-- Settles O48: in a call a step is a reset or a form of the call, and between calls a move of the caller. -/
theorem wellFormedParametersAreNeverRefused : Obligations.WellFormedParametersAreNeverRefused := by
  intro s hinv hp hstart
  obtain ⟨-, hw⟩ := s.inv_iff.mp hinv
  by_cases hs : s.stage = .idle
  · rw [step_idle hs]
    exact (hostStep_answers s).imp_right fun hf => ⟨hs, hf⟩
  · rcases step_call_cases hs with ⟨rest, -, hstep⟩ | ⟨rest, hh, -⟩ | ⟨-, hstep⟩
    · exact .inl ⟨_, hstep⟩
    · exact absurd (hstart rest hh) hs
    · exact .inl (hstep ▸ callStep_answers hs hp hw)

end Machine

end Sys2Proof
end
